-- ==== Sys2Proof/Word.lean ====
section
/-! DEFINITION. The byte, the element of every memory and every stream of the engine (00_scope.md R9). -/

namespace Sys2Proof

/-- A byte is "an 8-bit value", 0 to 255 (R9). -/
abbrev Byte := BitVec 8

end Sys2Proof
end

