-- ==== Sys2Proof/Machine/Rom.lean ====
section
/-! DEFINITION. The constant ROM (10_state.md R37, 41_huffman_tables.md R150 to R157, 48_base64.md R281) and the constant
parameters (00_scope.md R7, R8). Pure data, never written. -/

namespace Sys2Proof.Rom

/-- `WSIZE`, `MAX_DIST` (R7). -/
def windowSize : Nat := 32768

/-- `MIN_MATCH` (R7). -/
def minMatch : Nat := 3

/-- `MAX_MATCH` (R7). -/
def maxMatch : Nat := 258

/-- `STORED_MAX` (R7) and `STORED_CHUNK` (R8, 92 D12). -/
def storedMax : Nat := 65535

/-- `ADLER_MOD` (R7). -/
def adlerMod : Nat := 65521

/-- `ZLIB_CMF` (R7). -/
def zlibCmf : Byte := 0x78#8

/-- `ZLIB_FLG` (R8, 92 D18). -/
def zlibFlg : Byte := 0x9C#8

/-- `LITLEN_CODE[s]` (R152): the code value of literal/length symbol `s` and its length in bits. -/
def litLenCode (s : Nat) : Nat × Nat :=
  if s ≤ 143 then (0x30 + s, 8)
  else if s ≤ 255 then (0x190 + (s - 144), 9)
  else if s ≤ 279 then (s - 256, 7)
  else (0xC0 + (s - 280), 8)

/-- The symbol whose code is the `len`-bit number `code`, if one is: the inverse of R152 (R155, R158), the two reserved
symbols 286 and 287 among them. -/
def litLenAt (len code : Nat) : Option Nat :=
  if len = 7 ∧ code ≤ 0x17 then some (256 + code)
  else if len = 8 ∧ 0x30 ≤ code ∧ code ≤ 0xBF then some (code - 0x30)
  else if len = 8 ∧ 0xC0 ≤ code ∧ code ≤ 0xC7 then some (280 + (code - 0xC0))
  else if len = 9 then some (144 + (code - 0x190))
  else none

/-- `LEN_BASE[0..28]` (R156). -/
def lenBases : List Nat :=
  [3, 4, 5, 6, 7, 8, 9, 10, 11, 13, 15, 17, 19, 23, 27, 31, 35, 43, 51, 59, 67, 83, 99, 115, 131, 163, 195, 227, 258]

/-- `LEN_EXTRA[0..28]` (R156). -/
def lenExtras : List Nat :=
  [0, 0, 0, 0, 0, 0, 0, 0, 1, 1, 1, 1, 2, 2, 2, 2, 3, 3, 3, 3, 4, 4, 4, 4, 5, 5, 5, 5, 0]

/-- `DIST_BASE[0..29]` (R157). -/
def distBases : List Nat :=
  [1, 2, 3, 4, 5, 7, 9, 13, 17, 25, 33, 49, 65, 97, 129,
   193, 257, 385, 513, 769, 1025, 1537, 2049, 3073, 4097, 6145, 8193, 12289, 16385, 24577]

/-- `DIST_EXTRA[0..29]` (R157). -/
def distExtras : List Nat :=
  [0, 0, 0, 0, 1, 1, 2, 2, 3, 3, 4, 4, 5, 5, 6, 6, 7, 7, 8, 8, 9, 9, 10, 10, 11, 11, 12, 12, 13, 13]

def lenBase (i : Nat) : Nat := lenBases.getD i 0

def lenExtra (i : Nat) : Nat := lenExtras.getD i 0

def distBase (j : Nat) : Nat := distBases.getD j 0

def distExtra (j : Nat) : Nat := distExtras.getD j 0

/-- The alphabet `B64[k]`, `k < 64` (R281). -/
def b64Char (k : Nat) : Byte :=
  if k ≤ 25 then BitVec.ofNat 8 (0x41 + k)
  else if k ≤ 51 then BitVec.ofNat 8 (0x61 + (k - 26))
  else if k ≤ 61 then BitVec.ofNat 8 (0x30 + (k - 52))
  else if k = 62 then 0x2B#8
  else 0x2F#8

/-- `B64inv(c)` (R281). -/
def b64Inv (c : Byte) : Option Nat :=
  if 0x41 ≤ c.toNat ∧ c.toNat ≤ 0x5A then some (c.toNat - 0x41)
  else if 0x61 ≤ c.toNat ∧ c.toNat ≤ 0x7A then some (c.toNat - 0x61 + 26)
  else if 0x30 ≤ c.toNat ∧ c.toNat ≤ 0x39 then some (c.toNat - 0x30 + 52)
  else if c = 0x2B#8 then some 62
  else if c = 0x2F#8 then some 63
  else none

/-- The padding character `=` (R281). -/
def b64PadChar : Byte := 0x3D#8

/-- `B64_WS` (R8, R284, 92 D22). -/
def b64Ws : List Byte := [0x09#8, 0x0A#8, 0x0B#8, 0x0C#8, 0x0D#8, 0x20#8]

end Sys2Proof.Rom
end

