-- ==== Sys2Proof/Syntax.lean ====
section
/-! DEFINITION. The instructions: one constructor per row of spec/opcode_table.json (30_encoding.md R91, R119), and the streams
they are read from. -/

namespace Sys2Proof

/-- Which stream element is read next. The command word is not among them: it is read from `CMD` at START. The spec lets an
implementation subdivide RUN into such micro-phases (10_state.md R28; log 2). -/
inductive StreamCtx
  /-- A DEFLATE block header (R98). -/
  | blockHeader
  /-- The body of a stored block (R100). -/
  | storedBody
  /-- A literal/length code with its extra bits (R101). -/
  | litLen
  /-- A distance code with its extra bits (R101). -/
  | distance
  /-- Byte 0 of a zlib stream (R110). -/
  | zlibCmf
  /-- Byte 1 of a zlib stream (R110). -/
  | zlibFlg
  /-- The embedded DEFLATE stream (R110). -/
  | zlibPayload
  /-- The last four bytes of a zlib stream (R110). -/
  | zlibTrailer
  /-- A channel-safe byte or escape pair (R114). -/
  | escape
  /-- A character of a Base64 text, before any padding character (R115, R288). -/
  | print
  /-- A character of a Base64 text after `pads` padding characters (R288). -/
  | printPad (pads : Nat)
deriving DecidableEq, Repr

/-- The commands of the engine and the elements of the streams its decoders interpret. -/
inductive Instr
  /-- `COMPRESS`: op = 1; `level` is CMD[7:4]. -/
  | compress (level : BitVec 4)
  /-- `DECOMPRESS`: op = 2; `level` is CMD[7:4], ignored (R92). -/
  | decompress (level : BitVec 4)
  /-- `COMPRESS_ZLIB`: op = 3; `level` is CMD[7:4]. -/
  | compressZlib (level : BitVec 4)
  /-- `DECOMPRESS_ZLIB`: op = 4; `level` is CMD[7:4], ignored (R92). -/
  | decompressZlib (level : BitVec 4)
  /-- `ENCODE_CHANNEL`: op = 5; `level` is CMD[7:4], ignored (R92). -/
  | encodeChannel (level : BitVec 4)
  /-- `DECODE_CHANNEL`: op = 6; `level` is CMD[7:4], ignored (R92). -/
  | decodeChannel (level : BitVec 4)
  /-- `ENCODE_PRINT`: op = 7; `level` is CMD[7:4], ignored (R92). -/
  | encodePrint (level : BitVec 4)
  /-- `DECODE_PRINT`: op = 8; `level` is CMD[7:4], ignored (R92). -/
  | decodePrint (level : BitVec 4)
  /-- `ADLER32`: op = 9; `level` is CMD[7:4], ignored (R92). -/
  | adler32 (level : BitVec 4)
  /-- `ILLEGAL_OP_0`: op = 0 (R304). -/
  | illegalOp0 (level : BitVec 4)
  /-- `ILLEGAL_OP_A_B`: op = 10 + low (R304). -/
  | illegalOpAB (low : BitVec 1) (level : BitVec 4)
  /-- `ILLEGAL_OP_C_F`: op = 12 + low (R304). -/
  | illegalOpCF (low : BitVec 2) (level : BitVec 4)
  /-- `ILLEGAL_LEVEL_10_11`: op = 1 + 2*zlib, level = 10 + low (R304). -/
  | illegalLevel1011 (zlib : BitVec 1) (low : BitVec 1)
  /-- `ILLEGAL_LEVEL_12_15`: op = 1 + 2*zlib, level = 12 + low (R304). -/
  | illegalLevel1215 (zlib : BitVec 1) (low : BitVec 2)
  /-- `BLOCK_STORED`: block header, BTYPE 0 (R98, R99). -/
  | blockStored (bfinal : BitVec 1)
  /-- `BLOCK_FIXED`: block header, BTYPE 1 (R98, R99). -/
  | blockFixed (bfinal : BitVec 1)
  /-- `BLOCK_DYNAMIC`: block header, BTYPE 2 (R99, R108). -/
  | blockDynamic (bfinal : BitVec 1)
  /-- `BLOCK_RESERVED`: block header, BTYPE 3 (R99, R108). -/
  | blockReserved (bfinal : BitVec 1)
  /-- `STORED_BODY`: the body of a stored block: the padding bits, LEN, NLEN and the data bytes that are there (R100, R215). -/
  | storedBody (pad : List Bool) (len : BitVec 16) (nlen : BitVec 16) (data : List Byte)
  /-- `LITERAL_0_143`: an 8-bit literal code (R102, R152). -/
  | literal0To143 (sym : Byte)
  /-- `LITERAL_144_255`: a 9-bit literal code (R102, R152). -/
  | literal144To255 (sym : Byte)
  /-- `EOB`: symbol 256 (R218). -/
  | eob
  /-- `LENGTH_257`: length 3 (R156). -/
  | length257
  /-- `LENGTH_258`: length 4 (R156). -/
  | length258
  /-- `LENGTH_259`: length 5 (R156). -/
  | length259
  /-- `LENGTH_260`: length 6 (R156). -/
  | length260
  /-- `LENGTH_261`: length 7 (R156). -/
  | length261
  /-- `LENGTH_262`: length 8 (R156). -/
  | length262
  /-- `LENGTH_263`: length 9 (R156). -/
  | length263
  /-- `LENGTH_264`: length 10 (R156). -/
  | length264
  /-- `LENGTH_265`: length 11 + extra (R156). -/
  | length265 (extra : BitVec 1)
  /-- `LENGTH_266`: length 13 + extra (R156). -/
  | length266 (extra : BitVec 1)
  /-- `LENGTH_267`: length 15 + extra (R156). -/
  | length267 (extra : BitVec 1)
  /-- `LENGTH_268`: length 17 + extra (R156). -/
  | length268 (extra : BitVec 1)
  /-- `LENGTH_269`: length 19 + extra (R156). -/
  | length269 (extra : BitVec 2)
  /-- `LENGTH_270`: length 23 + extra (R156). -/
  | length270 (extra : BitVec 2)
  /-- `LENGTH_271`: length 27 + extra (R156). -/
  | length271 (extra : BitVec 2)
  /-- `LENGTH_272`: length 31 + extra (R156). -/
  | length272 (extra : BitVec 2)
  /-- `LENGTH_273`: length 35 + extra (R156). -/
  | length273 (extra : BitVec 3)
  /-- `LENGTH_274`: length 43 + extra (R156). -/
  | length274 (extra : BitVec 3)
  /-- `LENGTH_275`: length 51 + extra (R156). -/
  | length275 (extra : BitVec 3)
  /-- `LENGTH_276`: length 59 + extra (R156). -/
  | length276 (extra : BitVec 3)
  /-- `LENGTH_277`: length 67 + extra (R156). -/
  | length277 (extra : BitVec 4)
  /-- `LENGTH_278`: length 83 + extra (R156). -/
  | length278 (extra : BitVec 4)
  /-- `LENGTH_279`: length 99 + extra (R156). -/
  | length279 (extra : BitVec 4)
  /-- `LENGTH_280`: length 115 + extra (R156). -/
  | length280 (extra : BitVec 4)
  /-- `LENGTH_281`: length 131 + extra (R156). -/
  | length281 (extra : BitVec 5)
  /-- `LENGTH_282`: length 163 + extra (R156). -/
  | length282 (extra : BitVec 5)
  /-- `LENGTH_283`: length 195 + extra (R156). -/
  | length283 (extra : BitVec 5)
  /-- `LENGTH_284`: length 227 + extra (R156). -/
  | length284 (extra : BitVec 5)
  /-- `LENGTH_285`: length 258 (R156). -/
  | length285
  /-- `LITLEN_RESERVED_286`: reserved symbol 286 (R108, R158). -/
  | litlenReserved286
  /-- `LITLEN_RESERVED_287`: reserved symbol 287 (R108, R158). -/
  | litlenReserved287
  /-- `DISTANCE_0`: distance 1 (R157). -/
  | distance0
  /-- `DISTANCE_1`: distance 2 (R157). -/
  | distance1
  /-- `DISTANCE_2`: distance 3 (R157). -/
  | distance2
  /-- `DISTANCE_3`: distance 4 (R157). -/
  | distance3
  /-- `DISTANCE_4`: distance 5 + extra (R157). -/
  | distance4 (extra : BitVec 1)
  /-- `DISTANCE_5`: distance 7 + extra (R157). -/
  | distance5 (extra : BitVec 1)
  /-- `DISTANCE_6`: distance 9 + extra (R157). -/
  | distance6 (extra : BitVec 2)
  /-- `DISTANCE_7`: distance 13 + extra (R157). -/
  | distance7 (extra : BitVec 2)
  /-- `DISTANCE_8`: distance 17 + extra (R157). -/
  | distance8 (extra : BitVec 3)
  /-- `DISTANCE_9`: distance 25 + extra (R157). -/
  | distance9 (extra : BitVec 3)
  /-- `DISTANCE_10`: distance 33 + extra (R157). -/
  | distance10 (extra : BitVec 4)
  /-- `DISTANCE_11`: distance 49 + extra (R157). -/
  | distance11 (extra : BitVec 4)
  /-- `DISTANCE_12`: distance 65 + extra (R157). -/
  | distance12 (extra : BitVec 5)
  /-- `DISTANCE_13`: distance 97 + extra (R157). -/
  | distance13 (extra : BitVec 5)
  /-- `DISTANCE_14`: distance 129 + extra (R157). -/
  | distance14 (extra : BitVec 6)
  /-- `DISTANCE_15`: distance 193 + extra (R157). -/
  | distance15 (extra : BitVec 6)
  /-- `DISTANCE_16`: distance 257 + extra (R157). -/
  | distance16 (extra : BitVec 7)
  /-- `DISTANCE_17`: distance 385 + extra (R157). -/
  | distance17 (extra : BitVec 7)
  /-- `DISTANCE_18`: distance 513 + extra (R157). -/
  | distance18 (extra : BitVec 8)
  /-- `DISTANCE_19`: distance 769 + extra (R157). -/
  | distance19 (extra : BitVec 8)
  /-- `DISTANCE_20`: distance 1025 + extra (R157). -/
  | distance20 (extra : BitVec 9)
  /-- `DISTANCE_21`: distance 1537 + extra (R157). -/
  | distance21 (extra : BitVec 9)
  /-- `DISTANCE_22`: distance 2049 + extra (R157). -/
  | distance22 (extra : BitVec 10)
  /-- `DISTANCE_23`: distance 3073 + extra (R157). -/
  | distance23 (extra : BitVec 10)
  /-- `DISTANCE_24`: distance 4097 + extra (R157). -/
  | distance24 (extra : BitVec 11)
  /-- `DISTANCE_25`: distance 6145 + extra (R157). -/
  | distance25 (extra : BitVec 11)
  /-- `DISTANCE_26`: distance 8193 + extra (R157). -/
  | distance26 (extra : BitVec 12)
  /-- `DISTANCE_27`: distance 12289 + extra (R157). -/
  | distance27 (extra : BitVec 12)
  /-- `DISTANCE_28`: distance 16385 + extra (R157). -/
  | distance28 (extra : BitVec 13)
  /-- `DISTANCE_29`: distance 24577 + extra (R157). -/
  | distance29 (extra : BitVec 13)
  /-- `DISTANCE_RESERVED_30`: pattern 30 (R108, R159). -/
  | distanceReserved30
  /-- `DISTANCE_RESERVED_31`: pattern 31 (R108, R159). -/
  | distanceReserved31
  /-- `ZLIB_CMF`: the first header byte (R111). -/
  | zlibCmf (cmf : Byte)
  /-- `ZLIB_FLG`: the second header byte (R112). -/
  | zlibFlg (flg : Byte)
  /-- `ZLIB_PAYLOAD`: the embedded DEFLATE stream, which IN itself delimits (R110, R245): no operand of its own. -/
  | zlibPayload
  /-- `ZLIB_ADLER32`: the big-endian trailer (R113). -/
  | zlibAdler32 (sum : BitVec 32)
  /-- `ESC_00`: 01 01 (R114). -/
  | esc00
  /-- `ESC_01`: 01 02 (R114). -/
  | esc01
  /-- `ESC_FF`: 01 03 (R114). -/
  | escFF
  /-- `ESC_PLAIN`: a byte other than 01, itself (R114, R273). -/
  | escPlain (x : Byte)
  /-- `ESC_INVALID`: 01 with an unrecognised follower, or (none) at the end of the input (R272). -/
  | escInvalid (follower : Option Byte)
  /-- `B64_UPPER`: `A` to `Z` (R281). -/
  | b64Upper (c : Byte)
  /-- `B64_LOWER`: `a` to `z` (R281). -/
  | b64Lower (c : Byte)
  /-- `B64_DIGIT`: `0` to `9` (R281). -/
  | b64Digit (c : Byte)
  /-- `B64_PLUS`: `+` (R281). -/
  | b64Plus
  /-- `B64_SLASH`: `/` (R281). -/
  | b64Slash
  /-- `B64_PAD`: `=` (R281). -/
  | b64Pad
  /-- `B64_WS`: a whitespace byte of B64_WS (R284). -/
  | b64Ws (c : Byte)
  /-- `B64_INVALID`: any other byte (R285). -/
  | b64Invalid (c : Byte)
deriving DecidableEq, Repr

end Sys2Proof
end

