-- ==== Sys2Proof/WellFormed.lean ====
section
/-! DEFINITION. Which instructions an encoding stands for: the operand ranges of spec/opcode_table.json that the types of
Syntax.lean do not already give. -/

namespace Sys2Proof

/-- The instruction is one that some encoding of the spec stands for, complete. -/
def Instr.wf : Instr → Bool
  | .compress level => decide (level.toNat ≤ 9)
  | .decompress _ => true
  | .compressZlib level => decide (level.toNat ≤ 9)
  | .decompressZlib _ => true
  | .encodeChannel _ => true
  | .decodeChannel _ => true
  | .encodePrint _ => true
  | .decodePrint _ => true
  | .adler32 _ => true
  | .illegalOp0 _ => true
  | .illegalOpAB _ _ => true
  | .illegalOpCF _ _ => true
  | .illegalLevel1011 _ _ => true
  | .illegalLevel1215 _ _ => true
  | .blockStored _ => true
  | .blockFixed _ => true
  | .blockDynamic _ => true
  | .blockReserved _ => true
  | .storedBody pad len _ data => decide (pad.length ≤ 7 ∧ data.length = len.toNat)
  | .literal0To143 sym => decide (sym.toNat ≤ 143)
  | .literal144To255 sym => decide (144 ≤ sym.toNat)
  | .eob => true
  | .length257 => true
  | .length258 => true
  | .length259 => true
  | .length260 => true
  | .length261 => true
  | .length262 => true
  | .length263 => true
  | .length264 => true
  | .length265 _ => true
  | .length266 _ => true
  | .length267 _ => true
  | .length268 _ => true
  | .length269 _ => true
  | .length270 _ => true
  | .length271 _ => true
  | .length272 _ => true
  | .length273 _ => true
  | .length274 _ => true
  | .length275 _ => true
  | .length276 _ => true
  | .length277 _ => true
  | .length278 _ => true
  | .length279 _ => true
  | .length280 _ => true
  | .length281 _ => true
  | .length282 _ => true
  | .length283 _ => true
  | .length284 _ => true
  | .length285 => true
  | .litlenReserved286 => true
  | .litlenReserved287 => true
  | .distance0 => true
  | .distance1 => true
  | .distance2 => true
  | .distance3 => true
  | .distance4 _ => true
  | .distance5 _ => true
  | .distance6 _ => true
  | .distance7 _ => true
  | .distance8 _ => true
  | .distance9 _ => true
  | .distance10 _ => true
  | .distance11 _ => true
  | .distance12 _ => true
  | .distance13 _ => true
  | .distance14 _ => true
  | .distance15 _ => true
  | .distance16 _ => true
  | .distance17 _ => true
  | .distance18 _ => true
  | .distance19 _ => true
  | .distance20 _ => true
  | .distance21 _ => true
  | .distance22 _ => true
  | .distance23 _ => true
  | .distance24 _ => true
  | .distance25 _ => true
  | .distance26 _ => true
  | .distance27 _ => true
  | .distance28 _ => true
  | .distance29 _ => true
  | .distanceReserved30 => true
  | .distanceReserved31 => true
  | .zlibCmf _ => true
  | .zlibFlg _ => true
  | .zlibPayload => true
  | .zlibAdler32 _ => true
  | .esc00 => true
  | .esc01 => true
  | .escFF => true
  | .escPlain x => decide (x ≠ 0x01#8)
  | .escInvalid follower => decide (follower ≠ some 0x01#8 ∧ follower ≠ some 0x02#8 ∧ follower ≠ some 0x03#8)
  | .b64Upper c => decide (0x41 ≤ c.toNat ∧ c.toNat ≤ 0x5A)
  | .b64Lower c => decide (0x61 ≤ c.toNat ∧ c.toNat ≤ 0x7A)
  | .b64Digit c => decide (0x30 ≤ c.toNat ∧ c.toNat ≤ 0x39)
  | .b64Plus => true
  | .b64Slash => true
  | .b64Pad => true
  | .b64Ws c => decide (c ∈ Rom.b64Ws)
  | .b64Invalid c => decide (Rom.b64Inv c = none ∧ c ≠ Rom.b64PadChar ∧ c ∉ Rom.b64Ws)

end Sys2Proof
end

