-- ==== Sys2Proof/Decode.lean ====
section
/-! DEFINITION. Decoding and encoding: the command word (30_encoding.md R90 to R93), the DEFLATE stream elements (R96 to R109),
the zlib envelope (R110 to R113), the channel-safe form (R114) and the print-safe form (R115). A stream is a list of bits in
stream order, first bit first (00_scope.md R10, 20_memory.md R66). -/

namespace Sys2Proof

/-! ### Bit and byte order -/

/-- The low `n` bits of `v`, least significant first (20_memory.md R67). -/
def lsbBits : Nat → Nat → List Bool
  | 0, _ => []
  | n + 1, v => v.testBit 0 :: lsbBits n (v / 2)

/-- The low `n` bits of `v`, most significant first: the order of a Huffman code (20_memory.md R68). -/
def msbBits : Nat → Nat → List Bool
  | 0, _ => []
  | n + 1, v => v.testBit n :: msbBits n v

/-- The eight stream bits of a byte (20_memory.md R66). -/
def byteBits (x : Byte) : List Bool := lsbBits 8 x.toNat

/-- The stream bits of a byte sequence (20_memory.md R66). -/
def bytesBits (xs : List Byte) : List Bool := xs.flatMap byteBits

/-- The next `n` bits as a number, first bit least significant, and the rest; `none` when fewer than `n` bits remain
(40_bitstream.md R136). -/
def takeLsb : Nat → List Bool → Option (Nat × List Bool)
  | 0, bs => some (0, bs)
  | _ + 1, [] => none
  | n + 1, b :: bs => (takeLsb n bs).map fun (v, rest) => (b.toNat + 2 * v, rest)

/-- The next `n` bits as a number, first bit most significant, folded by `code <- (code << 1) | bit` from `acc`
(41_huffman_tables.md R159). -/
def takeMsb : Nat → Nat → List Bool → Option (Nat × List Bool)
  | 0, acc, bs => some (acc, bs)
  | _ + 1, _, [] => none
  | n + 1, acc, b :: bs => takeMsb n (2 * acc + b.toNat) bs

/-- The next byte. -/
def takeByte (bs : List Bool) : Option (Byte × List Bool) :=
  (takeLsb 8 bs).map fun (v, rest) => (BitVec.ofNat 8 v, rest)

/-- The next `n` bytes, or as many whole bytes as there are. -/
def takeBytes : Nat → List Bool → List Byte × List Bool
  | 0, bs => ([], bs)
  | n + 1, bs =>
    match takeByte bs with
    | none => ([], bs)
    | some (x, rest) => (x :: (takeBytes n rest).1, (takeBytes n rest).2)

/-- `BE32(v)`: most significant byte first (45_zlib.md R243). -/
def be32 (v : BitVec 32) : List Byte :=
  [v.extractLsb' 24 8, v.extractLsb' 16 8, v.extractLsb' 8 8, v.extractLsb' 0 8]

/-- `BE32inv` (45_zlib.md R243). -/
def be32Inv (b0 b1 b2 b3 : Byte) : BitVec 32 := b0 ++ b1 ++ b2 ++ b3

/-! ### The command word -/

/-- `CMD[3:0]` (10_state.md R21). -/
def cmdOp (w : BitVec 8) : BitVec 4 := w.extractLsb' 0 4

/-- `CMD[7:4]` (10_state.md R21). -/
def cmdLevel (w : BitVec 8) : BitVec 4 := w.extractLsb' 4 4

/-- `Legal(CMD)` (49_host_interface.md R304). -/
def cmdLegal (w : BitVec 8) : Bool :=
  decide (1 ≤ (cmdOp w).toNat ∧ (cmdOp w).toNat ≤ 9 ∧
    ((cmdOp w).toNat = 1 ∨ (cmdOp w).toNat = 3 → (cmdLevel w).toNat ≤ 9))

/-- A compress opcode whose level is 10 or more (R304): the two rows that take priority over `COMPRESS` and
`COMPRESS_ZLIB`. -/
def illegalLevel (zlib : BitVec 1) (level : BitVec 4) : Instr :=
  if level.toNat < 12 then .illegalLevel1011 zlib (level.extractLsb' 0 1)
  else .illegalLevel1215 zlib (level.extractLsb' 0 2)

/-- The command a `CMD` word names (30_encoding.md R91 to R93). Every word names one. -/
def decodeCommand (w : BitVec 8) : Instr :=
  let op := (cmdOp w).toNat
  let level := cmdLevel w
  if op = 0 then .illegalOp0 level
  else if op = 1 then if level.toNat ≤ 9 then .compress level else illegalLevel 0#1 level
  else if op = 2 then .decompress level
  else if op = 3 then if level.toNat ≤ 9 then .compressZlib level else illegalLevel 1#1 level
  else if op = 4 then .decompressZlib level
  else if op = 5 then .encodeChannel level
  else if op = 6 then .decodeChannel level
  else if op = 7 then .encodePrint level
  else if op = 8 then .decodePrint level
  else if op = 9 then .adler32 level
  else if op < 12 then .illegalOpAB ((cmdOp w).extractLsb' 0 1) level
  else .illegalOpCF ((cmdOp w).extractLsb' 0 2) level

/-- The bits of a command word with this `op` and `level`. -/
def commandBits (op : Nat) (level : BitVec 4) : List Bool := lsbBits 4 op ++ lsbBits 4 level.toNat

/-! ### Stream elements -/

/-- Why a stream gives no element. -/
inductive Reject
  /-- Fewer bits remain than the element needs: the engine raises `TruncatedStream` (R136). -/
  | truncated
  /-- A byte-oriented stream (channel-safe or print-safe) is at its end. -/
  | endOfInput
deriving DecidableEq, Repr

/-- `DecodeLitLen()` (41_huffman_tables.md R158): one bit at a time until the bits read are a code; `len` bits with value `code`
have been read, at most `fuel` more are. -/
def decodeLitLenFrom : Nat → Nat → Nat → List Bool → Option (Nat × List Bool)
  | 0, _, _, _ => none
  | _ + 1, _, _, [] => none
  | fuel + 1, len, code, b :: bs =>
    match Rom.litLenAt (len + 1) (2 * code + b.toNat) with
    | some sym => some (sym, bs)
    | none => decodeLitLenFrom fuel (len + 1) (2 * code + b.toNat) bs

/-- `DecodeLitLen()` (R158): the symbol, 0 to 287, and the bits after its code. -/
def decodeLitLen (bs : List Bool) : Option (Nat × List Bool) := decodeLitLenFrom 9 0 0 bs

/-- The length element of symbol `257 + i` with extra field `e` (R105, R156). -/
def lengthInstr (i e : Nat) : Instr :=
  match i with
  | 0 => .length257
  | 1 => .length258
  | 2 => .length259
  | 3 => .length260
  | 4 => .length261
  | 5 => .length262
  | 6 => .length263
  | 7 => .length264
  | 8 => .length265 (BitVec.ofNat 1 e)
  | 9 => .length266 (BitVec.ofNat 1 e)
  | 10 => .length267 (BitVec.ofNat 1 e)
  | 11 => .length268 (BitVec.ofNat 1 e)
  | 12 => .length269 (BitVec.ofNat 2 e)
  | 13 => .length270 (BitVec.ofNat 2 e)
  | 14 => .length271 (BitVec.ofNat 2 e)
  | 15 => .length272 (BitVec.ofNat 2 e)
  | 16 => .length273 (BitVec.ofNat 3 e)
  | 17 => .length274 (BitVec.ofNat 3 e)
  | 18 => .length275 (BitVec.ofNat 3 e)
  | 19 => .length276 (BitVec.ofNat 3 e)
  | 20 => .length277 (BitVec.ofNat 4 e)
  | 21 => .length278 (BitVec.ofNat 4 e)
  | 22 => .length279 (BitVec.ofNat 4 e)
  | 23 => .length280 (BitVec.ofNat 4 e)
  | 24 => .length281 (BitVec.ofNat 5 e)
  | 25 => .length282 (BitVec.ofNat 5 e)
  | 26 => .length283 (BitVec.ofNat 5 e)
  | 27 => .length284 (BitVec.ofNat 5 e)
  | _ => .length285

/-- The distance element of pattern `j` with extra field `e` (R105, R157, R159). -/
def distanceInstr (j e : Nat) : Instr :=
  match j with
  | 0 => .distance0
  | 1 => .distance1
  | 2 => .distance2
  | 3 => .distance3
  | 4 => .distance4 (BitVec.ofNat 1 e)
  | 5 => .distance5 (BitVec.ofNat 1 e)
  | 6 => .distance6 (BitVec.ofNat 2 e)
  | 7 => .distance7 (BitVec.ofNat 2 e)
  | 8 => .distance8 (BitVec.ofNat 3 e)
  | 9 => .distance9 (BitVec.ofNat 3 e)
  | 10 => .distance10 (BitVec.ofNat 4 e)
  | 11 => .distance11 (BitVec.ofNat 4 e)
  | 12 => .distance12 (BitVec.ofNat 5 e)
  | 13 => .distance13 (BitVec.ofNat 5 e)
  | 14 => .distance14 (BitVec.ofNat 6 e)
  | 15 => .distance15 (BitVec.ofNat 6 e)
  | 16 => .distance16 (BitVec.ofNat 7 e)
  | 17 => .distance17 (BitVec.ofNat 7 e)
  | 18 => .distance18 (BitVec.ofNat 8 e)
  | 19 => .distance19 (BitVec.ofNat 8 e)
  | 20 => .distance20 (BitVec.ofNat 9 e)
  | 21 => .distance21 (BitVec.ofNat 9 e)
  | 22 => .distance22 (BitVec.ofNat 10 e)
  | 23 => .distance23 (BitVec.ofNat 10 e)
  | 24 => .distance24 (BitVec.ofNat 11 e)
  | 25 => .distance25 (BitVec.ofNat 11 e)
  | 26 => .distance26 (BitVec.ofNat 12 e)
  | 27 => .distance27 (BitVec.ofNat 12 e)
  | 28 => .distance28 (BitVec.ofNat 13 e)
  | 29 => .distance29 (BitVec.ofNat 13 e)
  | 30 => .distanceReserved30
  | _ => .distanceReserved31

/-- A literal/length symbol with its extra bits, which follow its code (R104). -/
def decodeLitLenElement (bs : List Bool) : Except Reject (Instr × List Bool) :=
  match decodeLitLen bs with
  | none => .error .truncated
  | some (sym, rest) =>
    if sym ≤ 143 then .ok (.literal0To143 (BitVec.ofNat 8 sym), rest)
    else if sym ≤ 255 then .ok (.literal144To255 (BitVec.ofNat 8 sym), rest)
    else if sym = 256 then .ok (.eob, rest)
    else if sym ≤ 285 then
      match takeLsb (Rom.lenExtra (sym - 257)) rest with
      | none => .error .truncated
      | some (e, rest') => .ok (lengthInstr (sym - 257) e, rest')
    else if sym = 286 then .ok (.litlenReserved286, rest)
    else .ok (.litlenReserved287, rest)

/-- A distance code with its extra bits (R104, R159). Patterns 30 and 31 have none. -/
def decodeDistanceElement (bs : List Bool) : Except Reject (Instr × List Bool) :=
  match takeMsb 5 0 bs with
  | none => .error .truncated
  | some (j, rest) =>
    match takeLsb (Rom.distExtra j) rest with
    | none => .error .truncated
    | some (e, rest') => .ok (distanceInstr j e, rest')

/-- A block header (R98, R99). -/
def decodeBlockHeader (bs : List Bool) : Except Reject (Instr × List Bool) :=
  match takeLsb 1 bs with
  | none => .error .truncated
  | some (f, rest) =>
    match takeLsb 2 rest with
    | none => .error .truncated
    | some (t, rest') =>
      let f1 := BitVec.ofNat 1 f
      let instr : Instr :=
        if t = 0 then .blockStored f1 else if t = 1 then .blockFixed f1
        else if t = 2 then .blockDynamic f1 else .blockReserved f1
      .ok (instr, rest')

/-- The number of bits from bit `bitPos` of a byte to the next byte boundary (40_bitstream.md R135). -/
def padBits (bitPos : Nat) : Nat := (8 - bitPos % 8) % 8

/-- The body of a stored block whose first bit lies at bit `bitPos` of its byte (R100, R215): padding, LEN, NLEN, then LEN data
bytes, or as many as there are. -/
def decodeStoredBody (bitPos : Nat) (bs : List Bool) : Except Reject (Instr × List Bool) :=
  let pad := padBits bitPos
  match takeLsb 16 (bs.drop pad) with
  | none => .error .truncated
  | some (len, rest) =>
    match takeLsb 16 rest with
    | none => .error .truncated
    | some (nlen, rest') =>
      let got := takeBytes len rest'
      .ok (.storedBody (bs.take pad) (BitVec.ofNat 16 len) (BitVec.ofNat 16 nlen) got.1, got.2)

/-- A channel-safe byte or escape pair (R114, R272). -/
def decodeEscape (bs : List Bool) : Except Reject (Instr × List Bool) :=
  match takeByte bs with
  | none => if bs.isEmpty then .error .endOfInput else .error .truncated
  | some (x, rest) =>
    if x ≠ 0x01#8 then .ok (.escPlain x, rest)
    else
      match takeByte rest with
      | none => .ok (.escInvalid none, rest)
      | some (f, rest') =>
        let instr : Instr :=
          if f = 0x01#8 then .esc00 else if f = 0x02#8 then .esc01
          else if f = 0x03#8 then .escFF else .escInvalid (some f)
        .ok (instr, rest')

/-- The class of a character of a Base64 text (R281, R284, R285). -/
def printInstr (c : Byte) : Instr :=
  if 0x41 ≤ c.toNat ∧ c.toNat ≤ 0x5A then .b64Upper c
  else if 0x61 ≤ c.toNat ∧ c.toNat ≤ 0x7A then .b64Lower c
  else if 0x30 ≤ c.toNat ∧ c.toNat ≤ 0x39 then .b64Digit c
  else if c = 0x2B#8 then .b64Plus
  else if c = 0x2F#8 then .b64Slash
  else if c = Rom.b64PadChar then .b64Pad
  else if c ∈ Rom.b64Ws then .b64Ws c
  else .b64Invalid c

/-- A character of a Base64 text. -/
def decodePrintChar (bs : List Bool) : Except Reject (Instr × List Bool) :=
  match takeByte bs with
  | none => if bs.isEmpty then .error .endOfInput else .error .truncated
  | some (c, rest) => .ok (printInstr c, rest)

/-- A byte of the zlib header. -/
def decodeZlibByte (mk : Byte → Instr) (bs : List Bool) : Except Reject (Instr × List Bool) :=
  match takeByte bs with
  | none => .error .truncated
  | some (x, rest) => .ok (mk x, rest)

/-- The zlib trailer, big-endian (R113). -/
def decodeTrailer (bs : List Bool) : Except Reject (Instr × List Bool) :=
  match takeBytes 4 bs with
  | ([b0, b1, b2, b3], rest) => .ok (.zlibAdler32 (be32Inv b0 b1 b2 b3), rest)
  | _ => .error .truncated

/-- The next element of a stream, and the bits after it. `bitPos` is the place of the first bit within its byte, which only a
stored block's padding depends on. -/
def decodeStream (ctx : StreamCtx) (bitPos : Nat) (bs : List Bool) : Except Reject (Instr × List Bool) :=
  match ctx with
  | .blockHeader => decodeBlockHeader bs
  | .storedBody => decodeStoredBody bitPos bs
  | .litLen => decodeLitLenElement bs
  | .distance => decodeDistanceElement bs
  | .zlibCmf => decodeZlibByte .zlibCmf bs
  | .zlibFlg => decodeZlibByte .zlibFlg bs
  | .zlibPayload => .ok (.zlibPayload, bs)
  | .zlibTrailer => decodeTrailer bs
  | .escape => decodeEscape bs
  | .print => decodePrintChar bs
  | .printPad _ => decodePrintChar bs

/-! ### Encoding -/

/-- The code of literal/length symbol `s` in stream order (R102, R152, R161). -/
def litLenBits (s : Nat) : List Bool := msbBits (Rom.litLenCode s).2 (Rom.litLenCode s).1

/-- The bits of an instruction, in stream order. -/
def encode : Instr → List Bool
  | .compress level => commandBits 1 level
  | .decompress level => commandBits 2 level
  | .compressZlib level => commandBits 3 level
  | .decompressZlib level => commandBits 4 level
  | .encodeChannel level => commandBits 5 level
  | .decodeChannel level => commandBits 6 level
  | .encodePrint level => commandBits 7 level
  | .decodePrint level => commandBits 8 level
  | .adler32 level => commandBits 9 level
  | .illegalOp0 level => commandBits 0 level
  | .illegalOpAB low level => commandBits (10 + low.toNat) level
  | .illegalOpCF low level => commandBits (12 + low.toNat) level
  | .illegalLevel1011 zlib low => commandBits (1 + 2 * zlib.toNat) (BitVec.ofNat 4 (10 + low.toNat))
  | .illegalLevel1215 zlib low => commandBits (1 + 2 * zlib.toNat) (BitVec.ofNat 4 (12 + low.toNat))
  | .blockStored bfinal => lsbBits 1 bfinal.toNat ++ lsbBits 2 0
  | .blockFixed bfinal => lsbBits 1 bfinal.toNat ++ lsbBits 2 1
  | .blockDynamic bfinal => lsbBits 1 bfinal.toNat ++ lsbBits 2 2
  | .blockReserved bfinal => lsbBits 1 bfinal.toNat ++ lsbBits 2 3
  | .storedBody pad len nlen data => pad ++ lsbBits 16 len.toNat ++ lsbBits 16 nlen.toNat ++ bytesBits data
  | .literal0To143 sym => litLenBits sym.toNat
  | .literal144To255 sym => litLenBits sym.toNat
  | .eob => litLenBits 256
  | .length257 => litLenBits 257
  | .length258 => litLenBits 258
  | .length259 => litLenBits 259
  | .length260 => litLenBits 260
  | .length261 => litLenBits 261
  | .length262 => litLenBits 262
  | .length263 => litLenBits 263
  | .length264 => litLenBits 264
  | .length265 extra => litLenBits 265 ++ lsbBits 1 extra.toNat
  | .length266 extra => litLenBits 266 ++ lsbBits 1 extra.toNat
  | .length267 extra => litLenBits 267 ++ lsbBits 1 extra.toNat
  | .length268 extra => litLenBits 268 ++ lsbBits 1 extra.toNat
  | .length269 extra => litLenBits 269 ++ lsbBits 2 extra.toNat
  | .length270 extra => litLenBits 270 ++ lsbBits 2 extra.toNat
  | .length271 extra => litLenBits 271 ++ lsbBits 2 extra.toNat
  | .length272 extra => litLenBits 272 ++ lsbBits 2 extra.toNat
  | .length273 extra => litLenBits 273 ++ lsbBits 3 extra.toNat
  | .length274 extra => litLenBits 274 ++ lsbBits 3 extra.toNat
  | .length275 extra => litLenBits 275 ++ lsbBits 3 extra.toNat
  | .length276 extra => litLenBits 276 ++ lsbBits 3 extra.toNat
  | .length277 extra => litLenBits 277 ++ lsbBits 4 extra.toNat
  | .length278 extra => litLenBits 278 ++ lsbBits 4 extra.toNat
  | .length279 extra => litLenBits 279 ++ lsbBits 4 extra.toNat
  | .length280 extra => litLenBits 280 ++ lsbBits 4 extra.toNat
  | .length281 extra => litLenBits 281 ++ lsbBits 5 extra.toNat
  | .length282 extra => litLenBits 282 ++ lsbBits 5 extra.toNat
  | .length283 extra => litLenBits 283 ++ lsbBits 5 extra.toNat
  | .length284 extra => litLenBits 284 ++ lsbBits 5 extra.toNat
  | .length285 => litLenBits 285
  | .litlenReserved286 => litLenBits 286
  | .litlenReserved287 => litLenBits 287
  | .distance0 => msbBits 5 0
  | .distance1 => msbBits 5 1
  | .distance2 => msbBits 5 2
  | .distance3 => msbBits 5 3
  | .distance4 extra => msbBits 5 4 ++ lsbBits 1 extra.toNat
  | .distance5 extra => msbBits 5 5 ++ lsbBits 1 extra.toNat
  | .distance6 extra => msbBits 5 6 ++ lsbBits 2 extra.toNat
  | .distance7 extra => msbBits 5 7 ++ lsbBits 2 extra.toNat
  | .distance8 extra => msbBits 5 8 ++ lsbBits 3 extra.toNat
  | .distance9 extra => msbBits 5 9 ++ lsbBits 3 extra.toNat
  | .distance10 extra => msbBits 5 10 ++ lsbBits 4 extra.toNat
  | .distance11 extra => msbBits 5 11 ++ lsbBits 4 extra.toNat
  | .distance12 extra => msbBits 5 12 ++ lsbBits 5 extra.toNat
  | .distance13 extra => msbBits 5 13 ++ lsbBits 5 extra.toNat
  | .distance14 extra => msbBits 5 14 ++ lsbBits 6 extra.toNat
  | .distance15 extra => msbBits 5 15 ++ lsbBits 6 extra.toNat
  | .distance16 extra => msbBits 5 16 ++ lsbBits 7 extra.toNat
  | .distance17 extra => msbBits 5 17 ++ lsbBits 7 extra.toNat
  | .distance18 extra => msbBits 5 18 ++ lsbBits 8 extra.toNat
  | .distance19 extra => msbBits 5 19 ++ lsbBits 8 extra.toNat
  | .distance20 extra => msbBits 5 20 ++ lsbBits 9 extra.toNat
  | .distance21 extra => msbBits 5 21 ++ lsbBits 9 extra.toNat
  | .distance22 extra => msbBits 5 22 ++ lsbBits 10 extra.toNat
  | .distance23 extra => msbBits 5 23 ++ lsbBits 10 extra.toNat
  | .distance24 extra => msbBits 5 24 ++ lsbBits 11 extra.toNat
  | .distance25 extra => msbBits 5 25 ++ lsbBits 11 extra.toNat
  | .distance26 extra => msbBits 5 26 ++ lsbBits 12 extra.toNat
  | .distance27 extra => msbBits 5 27 ++ lsbBits 12 extra.toNat
  | .distance28 extra => msbBits 5 28 ++ lsbBits 13 extra.toNat
  | .distance29 extra => msbBits 5 29 ++ lsbBits 13 extra.toNat
  | .distanceReserved30 => msbBits 5 30
  | .distanceReserved31 => msbBits 5 31
  | .zlibCmf cmf => byteBits cmf
  | .zlibFlg flg => byteBits flg
  | .zlibPayload => []
  | .zlibAdler32 sum => bytesBits (be32 sum)
  | .esc00 => bytesBits [0x01#8, 0x01#8]
  | .esc01 => bytesBits [0x01#8, 0x02#8]
  | .escFF => bytesBits [0x01#8, 0x03#8]
  | .escPlain x => byteBits x
  | .escInvalid follower => bytesBits (0x01#8 :: follower.toList)
  | .b64Upper c => byteBits c
  | .b64Lower c => byteBits c
  | .b64Digit c => byteBits c
  | .b64Plus => byteBits 0x2B#8
  | .b64Slash => byteBits 0x2F#8
  | .b64Pad => byteBits Rom.b64PadChar
  | .b64Ws c => byteBits c
  | .b64Invalid c => byteBits c

/-- The stream an instruction belongs to; `none` for the commands, which are read from `CMD`. -/
def Instr.ctx : Instr → Option StreamCtx
  | .compress _ => none
  | .decompress _ => none
  | .compressZlib _ => none
  | .decompressZlib _ => none
  | .encodeChannel _ => none
  | .decodeChannel _ => none
  | .encodePrint _ => none
  | .decodePrint _ => none
  | .adler32 _ => none
  | .illegalOp0 _ => none
  | .illegalOpAB _ _ => none
  | .illegalOpCF _ _ => none
  | .illegalLevel1011 _ _ => none
  | .illegalLevel1215 _ _ => none
  | .blockStored _ => some .blockHeader
  | .blockFixed _ => some .blockHeader
  | .blockDynamic _ => some .blockHeader
  | .blockReserved _ => some .blockHeader
  | .storedBody _ _ _ _ => some .storedBody
  | .literal0To143 _ => some .litLen
  | .literal144To255 _ => some .litLen
  | .eob => some .litLen
  | .length257 => some .litLen
  | .length258 => some .litLen
  | .length259 => some .litLen
  | .length260 => some .litLen
  | .length261 => some .litLen
  | .length262 => some .litLen
  | .length263 => some .litLen
  | .length264 => some .litLen
  | .length265 _ => some .litLen
  | .length266 _ => some .litLen
  | .length267 _ => some .litLen
  | .length268 _ => some .litLen
  | .length269 _ => some .litLen
  | .length270 _ => some .litLen
  | .length271 _ => some .litLen
  | .length272 _ => some .litLen
  | .length273 _ => some .litLen
  | .length274 _ => some .litLen
  | .length275 _ => some .litLen
  | .length276 _ => some .litLen
  | .length277 _ => some .litLen
  | .length278 _ => some .litLen
  | .length279 _ => some .litLen
  | .length280 _ => some .litLen
  | .length281 _ => some .litLen
  | .length282 _ => some .litLen
  | .length283 _ => some .litLen
  | .length284 _ => some .litLen
  | .length285 => some .litLen
  | .litlenReserved286 => some .litLen
  | .litlenReserved287 => some .litLen
  | .distance0 => some .distance
  | .distance1 => some .distance
  | .distance2 => some .distance
  | .distance3 => some .distance
  | .distance4 _ => some .distance
  | .distance5 _ => some .distance
  | .distance6 _ => some .distance
  | .distance7 _ => some .distance
  | .distance8 _ => some .distance
  | .distance9 _ => some .distance
  | .distance10 _ => some .distance
  | .distance11 _ => some .distance
  | .distance12 _ => some .distance
  | .distance13 _ => some .distance
  | .distance14 _ => some .distance
  | .distance15 _ => some .distance
  | .distance16 _ => some .distance
  | .distance17 _ => some .distance
  | .distance18 _ => some .distance
  | .distance19 _ => some .distance
  | .distance20 _ => some .distance
  | .distance21 _ => some .distance
  | .distance22 _ => some .distance
  | .distance23 _ => some .distance
  | .distance24 _ => some .distance
  | .distance25 _ => some .distance
  | .distance26 _ => some .distance
  | .distance27 _ => some .distance
  | .distance28 _ => some .distance
  | .distance29 _ => some .distance
  | .distanceReserved30 => some .distance
  | .distanceReserved31 => some .distance
  | .zlibCmf _ => some .zlibCmf
  | .zlibFlg _ => some .zlibFlg
  | .zlibPayload => some .zlibPayload
  | .zlibAdler32 _ => some .zlibTrailer
  | .esc00 => some .escape
  | .esc01 => some .escape
  | .escFF => some .escape
  | .escPlain _ => some .escape
  | .escInvalid _ => some .escape
  | .b64Upper _ => some .print
  | .b64Lower _ => some .print
  | .b64Digit _ => some .print
  | .b64Plus => some .print
  | .b64Slash => some .print
  | .b64Pad => some .print
  | .b64Ws _ => some .print
  | .b64Invalid _ => some .print

/-! ### Words numbered as the opcode table numbers them -/

/-- The stream bits of a table pattern of `n` bits, whose leftmost digit is bit `n - 1` of the number `w` and the first stream
bit (R119). -/
def tableBits (n w : Nat) : List Bool := msbBits n w

/-- The bytes of a word whose first byte is its low byte. -/
def tableBytes : Nat → Nat → List Byte
  | 0, _ => []
  | n + 1, w => BitVec.ofNat 8 w :: tableBytes n (w / 256)

/-- The bytes of a stream of at most `8 * n` bits, the last one padded with zero bits (20_memory.md R66). -/
def packBits : Nat → List Bool → List Byte
  | 0, _ => []
  | n + 1, bs => BitVec.ofNat 8 ((bs.take 8).foldr (fun b acc => b.toNat + 2 * acc) 0) :: packBits n (bs.drop 8)

/-- The stream a table word of more than 8 bits belongs to, and its stream bits: 16 bits are an escape pair (the first byte
01 with one of the three followers), else a distance element of exactly 16 bits, else another byte pair of the channel-safe
form; 32 bits are the zlib trailer. A word of 8 bits is a command word (log 8). -/
def tableStream (nbits w : Nat) : Option (StreamCtx × List Bool) :=
  if nbits = 16 then
    if w = 0x0101 ∨ w = 0x0201 ∨ w = 0x0301 then some (.escape, bytesBits (tableBytes 2 w))
    else
      match decodeDistanceElement (tableBits 16 w) with
      | .ok (_, []) => some (.distance, tableBits 16 w)
      | _ => if w % 256 = 1 then some (.escape, bytesBits (tableBytes 2 w)) else none
  else if nbits = 32 then some (.zlibTrailer, bytesBits (tableBytes 4 w))
  else none

/-- The instruction of a table word (log 8). -/
def decodeTableWord (nbits w : Nat) : Option Instr :=
  if nbits = 8 then some (decodeCommand (BitVec.ofNat 8 w))
  else
    match tableStream nbits w with
    | none => none
    | some (ctx, bs) =>
      match decodeStream ctx 0 bs with
      | .ok (i, _) => some i
      | .error _ => none

end Sys2Proof
end

