-- ==== Sys2Proof/Config.lean ====
section
/-! DEFINITION. What the spec leaves open: the free values of the model. They are opaque: nothing can prove a value of them. -/

namespace Sys2Proof

/-- The contents of `OUT` (and, by its length, `OUT_LEN`) after the `n`-th failure whose output the spec leaves unspecified:
"a model should treat `OUT` and `OUT_LEN` after a failure other than `ChecksumMismatch` as any value" (60_exceptions.md R332,
92 D17; log 3). -/
opaque Config.failedOut : Nat → List Byte

/-- The width `LEN_BITS` of the length registers of a hardware instance, which the spec leaves OPEN (00_scope.md R14, 92 D7;
log 9). The model itself uses unbounded naturals; only the launch premise of Safety.lean reads this. -/
opaque Config.lenBits : Nat

end Sys2Proof
end

