-- ==== Sys2Proof/Machine/State.lean ====
section
/-! DEFINITION. The state of one engine (spec/10_state.md, spec/20_memory.md), its reset value (R43, R360), the error kinds
(60_exceptions.md R320), and the reasons a step can stop. -/

namespace Sys2Proof.Machine

/-- A byte memory: address and byte pairs, addresses strictly rising, no byte that an unlisted address reads as anyway (log 5). -/
abbrev Memory := List Host.Cell

/-- The error kinds (60_exceptions.md R320), `None` left out: `STATUS.err` holds their codes. -/
inductive ErrorKind
  | truncatedStream
  | unsupportedBlockType
  | invalidBackReference
  | invalidHeader
  | checksumMismatch
  | invalidEscape
  | invalidBase64
  | invalidSymbol
  | outputLimitExceeded
  | illegalCommand
deriving DecidableEq, Repr

/-- `phase` (10_state.md R28). It is the same information as `STATUS.busy` and `STATUS.done` and is computed from them. -/
inductive Phase
  | idle
  | run
  | done
deriving DecidableEq, Repr

/-- Everything the spec gives one engine, and three fields of the model's own (`micro`, `zlib`, `draws`). -/
structure State where
  /-- `CMD` (R21). -/
  cmd : BitVec 8
  /-- `STATUS` (R22). -/
  status : BitVec 8
  /-- `IN_LEN` (R23). -/
  inLen : Nat
  /-- `OUT_LEN` (R24). -/
  outLen : Nat
  /-- `MAXOUT` (R25). -/
  maxOut : Nat
  /-- `RESULT` (R26). -/
  result : BitVec 32
  /-- The memory `IN` (R60, R61). -/
  inBuf : Memory
  /-- The memory `OUT` (R60, R62). -/
  outBuf : Memory
  /-- The memory `WIN` (R60, R64). -/
  win : Memory
  /-- `ipos` (R29). -/
  ipos : Nat
  /-- `wacc` (R30). -/
  wacc : BitVec 8
  /-- `wcnt` (R30). -/
  wcnt : BitVec 3
  /-- `rpos` (R31). -/
  rpos : Nat
  /-- `rbit` (R31). -/
  rbit : BitVec 3
  /-- `rbase` (R32). -/
  rbase : Nat
  /-- `rend` (R32). -/
  rend : Nat
  /-- `a` of the checksum (R33). -/
  a : BitVec 16
  /-- `b` of the checksum (R33). -/
  b : BitVec 16
  /-- `wptr` (R34). -/
  wptr : BitVec 15
  /-- `wfill` (R34). -/
  wfill : BitVec 16
  /-- `bfinal` (R35). -/
  bfinal : BitVec 1
  /-- `btype` (R35). -/
  btype : BitVec 2
  /-- `sym` (R35). -/
  sym : BitVec 9
  /-- `mlen` (R35). -/
  mlen : BitVec 9
  /-- `mdist` (R35). -/
  mdist : BitVec 16
  /-- `blen` (R35). -/
  blen : BitVec 16
  /-- `best_len` (R36). -/
  bestLen : BitVec 9
  /-- `best_dist` (R36). -/
  bestDist : BitVec 16
  /-- `grp` (R36). -/
  grp : BitVec 24
  /-- `gcnt` (R36). -/
  gcnt : BitVec 3
  /-- The model's own: the micro-phase of RUN, which R28 lets an implementation choose (log 2). -/
  micro : StreamCtx
  /-- The model's own: the DEFLATE decoder returns to `DECOMPRESS_ZLIB` when its last block ends (R245; log 2). -/
  zlib : Bool
  /-- The model's own: how many unspecified outputs have been drawn (R332; log 3). -/
  draws : Nat
deriving DecidableEq, Repr

/-- The state right after reset: host registers and `phase` as R43 and R360 say; everything R43 leaves unspecified at the value
log 4 and log 5 name. -/
def State.reset : State where
  cmd := 0#8
  status := 0#8
  inLen := 0
  outLen := 0
  maxOut := 0
  result := 0#32
  inBuf := []
  outBuf := []
  win := []
  ipos := 0
  wacc := 0#8
  wcnt := 0#3
  rpos := 0
  rbit := 0#3
  rbase := 0
  rend := 0
  a := 0#16
  b := 0#16
  wptr := 0#15
  wfill := 0#16
  bfinal := 0#1
  btype := 0#2
  sym := 0#9
  mlen := 0#9
  mdist := 0#16
  blen := 0#16
  bestLen := 0#9
  bestDist := 0#16
  grp := 0#24
  gcnt := 0#3
  micro := .blockHeader
  zlib := false
  draws := 0

/-- Why the machine stops. The spec gives the engine no such condition: every failure is a state the engine goes on from
(60_exceptions.md R330, R335). -/
inductive Fault
  /-- Raised by `streamElement` (Machine/Inflate.lean, Machine/Stream.lean) were a decoder ever handed a command word as a
  stream element. No stream decodes to one, so nothing raises it; it would be a safe stop (log 15). -/
  | strayElement
deriving DecidableEq, Repr

/-- Why an instruction has no meaning. -/
inductive Refusal
  /-- Raised by an arm of `exec` whose instruction has no meaning yet: no arm does. A safe stop. -/
  | notModelled (mnemonic : String)
deriving DecidableEq, Repr

/-- What a step answers. -/
abbrev Answer := Host.Outcome State Fault Refusal

end Sys2Proof.Machine
end

