-- ==== Sys2Proof/Machine/Flags.lean ====
section
/-! DEFINITION. `STATUS` (10_state.md R22, R39): its fields, and the values the engine writes to it. The engine has no other
flags but the latch `bfinal`. -/

namespace Sys2Proof.Machine

/-- The code of an error kind in `STATUS.err` (60_exceptions.md R320, 92 D3). -/
def ErrorKind.code : ErrorKind → BitVec 4
  | .truncatedStream => 1#4
  | .unsupportedBlockType => 2#4
  | .invalidBackReference => 3#4
  | .invalidHeader => 4#4
  | .checksumMismatch => 5#4
  | .invalidEscape => 6#4
  | .invalidBase64 => 7#4
  | .invalidSymbol => 8#4
  | .outputLimitExceeded => 9#4
  | .illegalCommand => 15#4

/-- Whether the spec says what `OUT` holds after a failure of this kind (60_exceptions.md R332): the decoded bytes after
`ChecksumMismatch`, nothing after `IllegalCommand`, any value after every other. -/
def ErrorKind.keepsOut : ErrorKind → Bool
  | .truncatedStream => false
  | .unsupportedBlockType => false
  | .invalidBackReference => false
  | .invalidHeader => false
  | .checksumMismatch => true
  | .invalidEscape => false
  | .invalidBase64 => false
  | .invalidSymbol => false
  | .outputLimitExceeded => false
  | .illegalCommand => true

/-- A `STATUS` word from its fields; bit 3 is reserved and reads 0 (R22). -/
def statusWord (err : BitVec 4) (ok done busy : Bool) : BitVec 8 :=
  err ++ 0#1 ++ BitVec.ofBool ok ++ BitVec.ofBool done ++ BitVec.ofBool busy

/-- `STATUS` while a command runs (49_host_interface.md R301). -/
def statusRunning : BitVec 8 := statusWord 0#4 false false true

/-- `STATUS` after a command that succeeded (49_host_interface.md R303). -/
def statusSucceeded : BitVec 8 := statusWord 0#4 true true false

/-- `STATUS` after a command that raised `k` (60_exceptions.md R330). -/
def statusFailed (k : ErrorKind) : BitVec 8 := statusWord k.code false true false

/-- `STATUS.busy`. -/
def State.busy (s : State) : Bool := s.status.getLsbD 0

/-- `STATUS.done`. -/
def State.done (s : State) : Bool := s.status.getLsbD 1

/-- `STATUS.ok`. -/
def State.ok (s : State) : Bool := s.status.getLsbD 2

/-- The reserved bit of `STATUS`. -/
def State.statusReserved (s : State) : Bool := s.status.getLsbD 3

/-- `STATUS.err`. -/
def State.err (s : State) : BitVec 4 := s.status.extractLsb' 4 4

/-- `phase` (R28). -/
def State.phase (s : State) : Phase := if s.busy then .run else if s.done then .done else .idle

end Sys2Proof.Machine
end

