-- ==== Sys2Proof/Machine/Ops.lean ====
section
/-! DEFINITION. The shared operations: the memories (20_memory.md), taking a failure and ending in success (60_exceptions.md R330,
49_host_interface.md R301, R303), the bit writer and the bit reader (40_bitstream.md), the window, the decoder's `Put`, and the
checksum (46_adler32.md). -/

namespace Sys2Proof.Machine

/-! ### Memories -/

/-- What an address that is not listed reads as (log 5). -/
def Memory.unlisted : Byte := 0x00#8

/-- The byte at address `a`. -/
def Memory.read : Memory → Nat → Byte
  | [], _ => Memory.unlisted
  | (k, v) :: rest, a => if k = a then v else Memory.read rest a

/-- A cell in front of `m`, unless its byte is what an unlisted address reads as. -/
def Memory.cell (a : Nat) (x : Byte) (m : Memory) : Memory := if x = Memory.unlisted then m else (a, x) :: m

/-- `m` with the byte at address `a` set to `x`, in canonical form. -/
def Memory.write : Memory → Nat → Byte → Memory
  | [], a, x => Memory.cell a x []
  | (k, v) :: rest, a, x =>
    if a < k then Memory.cell a x ((k, v) :: rest)
    else if a = k then Memory.cell a x rest
    else (k, v) :: Memory.write rest a x

/-- `m` with the bytes `xs` written from address `a` on; every other byte as it was. -/
def Memory.writeBytes : Nat → List Byte → Memory → Memory
  | _, [], m => m
  | a, x :: xs, m => Memory.writeBytes (a + 1) xs (m.write a x)

/-- The canonical form, from address `lo` on: addresses strictly rising, no byte that reads as unlisted. -/
def Memory.wfFrom : Nat → Memory → Bool
  | _, [] => true
  | lo, (k, v) :: rest => decide (lo ≤ k) && decide (v ≠ Memory.unlisted) && Memory.wfFrom (k + 1) rest

/-- The canonical form of a memory. -/
def Memory.wf (m : Memory) : Bool := Memory.wfFrom 0 m

/-- `MemRead(m, a, n)` (00_scope.md R11). -/
def Memory.bytes (m : Memory) (a n : Nat) : List Byte := (List.range n).map fun k => m.read (a + k)

/-- The memory whose bytes from address `a` on are `xs` and which lists nothing else. -/
def Memory.ofBytesFrom : Nat → List Byte → Memory
  | _, [] => []
  | a, x :: xs => Memory.cell a x (Memory.ofBytesFrom (a + 1) xs)

/-- The memory whose first bytes are `xs`. -/
def Memory.ofBytes (xs : List Byte) : Memory := Memory.ofBytesFrom 0 xs

/-- `IN[0..IN_LEN]`. -/
def State.input (s : State) : List Byte := s.inBuf.bytes 0 s.inLen

/-- `OUT[0..OUT_LEN]`. -/
def State.output (s : State) : List Byte := s.outBuf.bytes 0 s.outLen

/-! ### Starting and ending a command -/

/-- Steps 1 and 2 of `Start()` (49_host_interface.md R301): the command is marked as running, the previous result is lost and all
per-command state is set. The bytes of `OUT` are lost with `OUT_LEN` (log 6). -/
def start (s : State) : State :=
  { s with
    status := statusRunning, outLen := 0, outBuf := [], result := 0#32, ipos := 0, wacc := 0#8, wcnt := 0#3,
    rbase := 0, rend := s.inLen, rpos := 0, rbit := 0#3, a := 1#16, b := 0#16, wptr := 0#15, wfill := 0#16,
    grp := 0#24, gcnt := 0#3 }

/-- `Succeed()` (49_host_interface.md R303). -/
def succeed (s : State) : State := { s with status := statusSucceeded }

/-- `OUT` and `OUT_LEN` at the next unspecified value (60_exceptions.md R332; log 3). -/
def drawOutput (s : State) : State :=
  { s with
    outBuf := Memory.ofBytes (Config.failedOut s.draws), outLen := (Config.failedOut s.draws).length,
    draws := s.draws + 1 }

/-- `raise k` (60_exceptions.md R330): the failing end of a command. Nothing is saved and nothing is vectored; `RESULT` keeps its
value (R333); `OUT` keeps its bytes only where the spec says so (R332). -/
def raise (k : ErrorKind) (s : State) : State :=
  if k.keepsOut then { s with status := statusFailed k }
  else { drawOutput s with status := statusFailed k }

/-- How an operation inside a command ends: `ok`, the command goes on; `error`, it has raised, and the state is the one
`raise` left. -/
abbrev Flow := Except State State

/-- The state in which an operation ended. -/
def Flow.state : Flow → State
  | .ok s => s
  | .error s => s

/-! ### The bit writer -/

/-- `Append(x)` (20_memory.md R63). -/
def append (x : Byte) (s : State) : State :=
  { s with outBuf := s.outBuf.write s.outLen x, outLen := s.outLen + 1 }

/-- `Append` of each byte in order. -/
def appendAll : List Byte → State → State
  | [], s => s
  | x :: xs, s => appendAll xs (append x s)

/-- One round of the loop of `WriteBits` (40_bitstream.md R131). -/
def writeBit (bit : Bool) (s : State) : State :=
  let acc := s.wacc ||| ((BitVec.ofBool bit).setWidth 8 <<< s.wcnt.toNat)
  if s.wcnt = 7#3 then { append acc s with wacc := 0#8, wcnt := 0#3 }
  else { s with wacc := acc, wcnt := s.wcnt + 1#3 }

/-- Bits in stream order. -/
def writeBitList : List Bool → State → State
  | [], s => s
  | b :: bs, s => writeBitList bs (writeBit b s)

/-- `WriteBits(value, n)` (40_bitstream.md R131). -/
def writeBits (value n : Nat) (s : State) : State := writeBitList (lsbBits n value) s

/-- `WriteCode(code, len)` (40_bitstream.md R133). -/
def writeCode (code len : Nat) (s : State) : State := writeBitList (msbBits len code) s

/-- `Flush()` (40_bitstream.md R132). -/
def flush (s : State) : State :=
  if s.wcnt = 0#3 then s else { append s.wacc s with wacc := 0#8, wcnt := 0#3 }

/-! ### The bit reader -/

/-- `BitsLeft()` (40_bitstream.md R134). -/
def bitsLeft (s : State) : Nat := 8 * (s.rend - s.rpos) - s.rbit.toNat

/-- The unread bits of `IN[rpos..rend]`, first bit `rbit` of `IN[rpos]` (10_state.md R31, 20_memory.md R66). -/
def readerBits (s : State) : List Bool := (bytesBits (s.inBuf.bytes s.rpos (s.rend - s.rpos))).drop s.rbit.toNat

/-- The read cursor `n` bits on (10_state.md R38). -/
def advanceBits (n : Nat) (s : State) : State :=
  { s with rpos := s.rpos + (s.rbit.toNat + n) / 8, rbit := BitVec.ofNat 3 (s.rbit.toNat + n) }

/-- `AlignByte()` (40_bitstream.md R135). -/
def alignByte (s : State) : State := if s.rbit = 0#3 then s else { s with rbit := 0#3, rpos := s.rpos + 1 }

/-- `ReadBits(n)` (40_bitstream.md R136): the value and the state with the cursor moved, or the error with nothing consumed. -/
def readBits (n : Nat) (s : State) : Except ErrorKind (Nat × State) :=
  if bitsLeft s < n then .error .truncatedStream
  else
    match takeLsb n (readerBits s) with
    | some (v, _) => .ok (v, advanceBits n s)
    | none => .error .truncatedStream

/-! ### The window and the decoder's output -/

/-- `WinPush(x)` (20_memory.md R64). -/
def winPush (x : Byte) (s : State) : State :=
  { s with
    win := s.win.write s.wptr.toNat x, wptr := s.wptr + 1#15,
    wfill := BitVec.ofNat 16 (min (s.wfill.toNat + 1) Rom.windowSize) }

/-- `WinAt(d)` (20_memory.md R64). -/
def winAt (d : Nat) (s : State) : Byte := s.win.read (s.wptr - BitVec.ofNat 15 d).toNat

/-- `Put(x)` (44_deflate_decoder.md R212). -/
def put (x : Byte) (s : State) : Flow :=
  if s.maxOut ≠ 0 ∧ s.maxOut ≤ s.outLen then .error (raise .outputLimitExceeded s)
  else .ok (winPush x (append x s))

/-- `Put` of each byte in order. -/
def putAll : List Byte → State → Flow
  | [], s => .ok s
  | x :: xs, s =>
    match put x s with
    | .ok s' => putAll xs s'
    | .error s' => .error s'

/-- The copy loop of `CopyMatch` (44_deflate_decoder.md R219, R220): `n` bytes from distance `d`, byte by byte. -/
def copyBytes : Nat → Nat → State → Flow
  | 0, _, s => .ok s
  | n + 1, d, s =>
    match put (s.outBuf.read (s.outLen - d)) s with
    | .ok s' => copyBytes n d s'
    | .error s' => .error s'

/-! ### The checksum -/

/-- `AdlerStep(x)` (46_adler32.md R261). -/
def adlerStep (x : Byte) (s : State) : State :=
  let a := (s.a.toNat + x.toNat) % Rom.adlerMod
  { s with a := BitVec.ofNat 16 a, b := BitVec.ofNat 16 ((s.b.toNat + a) % Rom.adlerMod) }

/-- The loop of `Adler32Of` (46_adler32.md R263). -/
def adlerSteps : List Byte → State → State
  | [], s => s
  | x :: xs, s => adlerSteps xs (adlerStep x s)

/-- `Adler32Of` over a byte sequence (46_adler32.md R263): the sums `a` and `b` of the pass. -/
def adlerPass (xs : List Byte) (s : State) : State := adlerSteps xs { s with a := 1#16, b := 0#16 }

/-- The value of a checksum pass, `(b << 16) | a` (46_adler32.md R263). -/
def adlerValue (s : State) : BitVec 32 := s.b ++ s.a

end Sys2Proof.Machine
end

