-- ==== Sys2Proof/Machine/Operands.lean ====
section
/-! DEFINITION. Operand assembly and selection: length and distance operands (30_encoding.md R105, 41_huffman_tables.md R156, R157,
R160) and Base64 groups (48_base64.md R282). -/

namespace Sys2Proof.Machine

/-- The length that symbol `257 + i` with extra field `e` stands for (R105). -/
def lengthOperand (i e : Nat) : Nat := Rom.lenBase i + e

/-- The distance that symbol `j` with extra field `e` stands for (R105). -/
def distanceOperand (j e : Nat) : Nat := Rom.distBase j + e

/-- The largest index whose entry of a rising table is at most `x` (R160). -/
def largestAtMost (table : List Nat) (x : Nat) : Nat := (table.takeWhile fun base => decide (base ≤ x)).length - 1

/-- `LenSym(L)` (R160). -/
def lenSym (len : Nat) : Nat := if len = 258 then 28 else largestAtMost (Rom.lenBases.take 28) len

/-- `DistSym(D)` (R160). -/
def distSym (dist : Nat) : Nat := largestAtMost Rom.distBases dist

/-- The 24-bit group of three bytes, the first most significant (R282). -/
def byteGroup (b0 b1 b2 : Byte) : BitVec 24 := b0 ++ b1 ++ b2

/-- Index `k` of a group, `grp[23:18]` first (R282). -/
def groupIndex (grp : BitVec 24) (k : Nat) : Nat := (grp.extractLsb' (18 - 6 * k) 6).toNat

/-- Byte `k` of a group, `grp[23:16]` first (R282). -/
def groupByte (grp : BitVec 24) (k : Nat) : Byte := grp.extractLsb' (16 - 8 * k) 8

end Sys2Proof.Machine
end

