-- ==== Sys2Proof/Machine/Compress.lean ====
section
/-! DEFINITION. The matcher (42_matcher.md), the DEFLATE encoder (43_deflate_encoder.md), and the commands `COMPRESS`,
`COMPRESS_ZLIB` (45_zlib.md R242) and `ADLER32` (46_adler32.md R262). -/

namespace Sys2Proof.Machine

/-! ### The matcher -/

/-- The length of the common beginning of two byte sequences, at most `cap`. -/
def commonLength : Nat → List Byte → List Byte → Nat
  | cap + 1, x :: xs, y :: ys => if x = y then commonLength cap xs ys + 1 else 0
  | _, _, _ => 0

/-- `MatchLen(p, d)` (R171). The source may run on into the bytes being matched. -/
def matchLen (input : List Byte) (p d : Nat) : Nat :=
  commonLength Rom.maxMatch (input.drop (p - d)) (input.drop p)

/-- The search of `FindMatch` (R172): every distance in rising order, the best pair so far replaced only by a strictly longer
match. -/
def bestMatch (input : List Byte) (p : Nat) : Nat × Nat :=
  (List.range (min p Rom.windowSize)).foldl
    (fun best k => if best.1 < matchLen input p (k + 1) then (matchLen input p (k + 1), k + 1) else best) (0, 0)

/-- `FindMatch(p)` (R172): the best pair, in `best_len` and `best_dist`; there is a match when `best_len >= 3` (R174). -/
def findMatch (p : Nat) (s : State) : State :=
  let best := if s.inLen - p < Rom.minMatch then (0, 0) else bestMatch s.input p
  { s with bestLen := BitVec.ofNat 9 best.1, bestDist := BitVec.ofNat 16 best.2 }

/-! ### Level 0 -/

/-- `WriteStoredBlock(final, start, n)` (R188) for the `n` bytes `data`. -/
def writeStoredBlock (final : Bool) (data : List Byte) (s : State) : State :=
  let header := flush (writeBits 0 2 (writeBits final.toNat 1 s))
  let lengths := writeBits (data.length ^^^ 0xFFFF) 16 (writeBits data.length 16 header)
  data.foldl (fun t x => writeBits x.toNat 8 t) lengths

/-- The loop of `CompressStored()` (R187), at most `fuel` blocks. -/
def compressStoredLoop : Nat → State → State
  | 0, s => s
  | fuel + 1, s =>
    let n := min Rom.storedMax (s.inLen - s.ipos)
    let final := decide (s.ipos + n = s.inLen)
    let s1 := writeStoredBlock final (s.inBuf.bytes s.ipos n) s
    let s2 := { s1 with ipos := s1.ipos + n }
    if final then s2 else compressStoredLoop fuel s2

/-- `CompressStored()` (R187). An input of `n` bytes takes at most `n / 65535 + 1` blocks. -/
def compressStored (s : State) : State := compressStoredLoop (s.inLen / Rom.storedMax + 1) { s with ipos := 0 }

/-! ### Levels 1 to 9 -/

/-- `PutLitLen(s)` (41_huffman_tables.md R161). -/
def putLitLen (sym : Nat) (s : State) : State := writeCode (Rom.litLenCode sym).1 (Rom.litLenCode sym).2 s

/-- `PutDist(j)` (41_huffman_tables.md R161). -/
def putDist (j : Nat) (s : State) : State := writeCode j 5 s

/-- `EmitLiteral(x)` (R191). -/
def emitLiteral (x : Byte) (s : State) : State := putLitLen x.toNat s

/-- `EmitMatch(L, D)` (R192). -/
def emitMatch (len dist : Nat) (s : State) : State :=
  let i := lenSym len
  let j := distSym dist
  let s1 := writeBits (len - Rom.lenBase i) (Rom.lenExtra i) (putLitLen (257 + i) s)
  writeBits (dist - Rom.distBase j) (Rom.distExtra j) (putDist j s1)

/-- `EmitEOB()` (R193). -/
def emitEob (s : State) : State := putLitLen 256 s

/-- `Advance(n)` (R190). -/
def advance : Nat → State → State
  | 0, s => s
  | n + 1, s =>
    let s1 := winPush (s.inBuf.read s.ipos) s
    advance n { s1 with ipos := s1.ipos + 1 }

/-- The loop of `CompressFixed()` (R189, R190), at most `fuel` symbols. -/
def compressFixedLoop : Nat → State → State
  | 0, s => s
  | fuel + 1, s =>
    if s.ipos < s.inLen then
      let s1 := findMatch s.ipos s
      if Rom.minMatch ≤ s1.bestLen.toNat then
        compressFixedLoop fuel (advance s1.bestLen.toNat (emitMatch s1.bestLen.toNat s1.bestDist.toNat s1))
      else compressFixedLoop fuel (advance 1 (emitLiteral (s1.inBuf.read s1.ipos) s1))
    else s

/-- `CompressFixed()` (R189): one block. Each symbol covers at least one input byte (R190). -/
def compressFixed (s : State) : State :=
  let header := writeBits 1 2 (writeBits 1 1 s)
  let body := compressFixedLoop s.inLen { header with ipos := 0, wptr := 0#15, wfill := 0#16 }
  flush (emitEob body)

/-- `Compress(level)` (R185). -/
def compressBody (level : BitVec 4) (s : State) : State := if level = 0#4 then compressStored s else compressFixed s

/-! ### The commands -/

/-- `COMPRESS` (R185). -/
def execCompress (level : BitVec 4) (s : State) : Answer := .next (succeed (compressBody level (start s)))

/-- `COMPRESS_ZLIB` (45_zlib.md R242). -/
def execCompressZlib (level : BitVec 4) (s : State) : Answer :=
  let payload := compressBody level (append Rom.zlibFlg (append Rom.zlibCmf (start s)))
  let sums := adlerPass s.input payload
  .next (succeed { appendAll (be32 (adlerValue sums)) sums with result := adlerValue sums })

/-- `ADLER32` (46_adler32.md R262). -/
def execAdler32 (_level : BitVec 4) (s : State) : Answer :=
  let sums := adlerPass s.input (start s)
  .next (succeed { sums with result := adlerValue sums, ipos := s.inLen })

end Sys2Proof.Machine
end

