-- ==== Sys2Proof/Machine/Illegal.lean ====
section
/-! DEFINITION. Command words that name no legal command (49_host_interface.md R304): the command is not executed and the engine
reports `IllegalCommand`. -/

namespace Sys2Proof.Machine

/-- `START` of an illegal command (R301, R304): the state is initialised, then `raise IllegalCommand` before any byte of `IN` is
read. -/
def refuseCommand (s : State) : State := raise .illegalCommand (start s)

/-- `ILLEGAL_OP_0` (R304). -/
def execIllegalOp0 (_level : BitVec 4) (s : State) : Answer := .next (refuseCommand s)

/-- `ILLEGAL_OP_A_B` (R304). -/
def execIllegalOpAB (_low : BitVec 1) (_level : BitVec 4) (s : State) : Answer := .next (refuseCommand s)

/-- `ILLEGAL_OP_C_F` (R304). -/
def execIllegalOpCF (_low : BitVec 2) (_level : BitVec 4) (s : State) : Answer := .next (refuseCommand s)

/-- `ILLEGAL_LEVEL_10_11` (R304). -/
def execIllegalLevel1011 (_zlib : BitVec 1) (_low : BitVec 1) (s : State) : Answer := .next (refuseCommand s)

/-- `ILLEGAL_LEVEL_12_15` (R304). -/
def execIllegalLevel1215 (_zlib : BitVec 1) (_low : BitVec 2) (s : State) : Answer := .next (refuseCommand s)

end Sys2Proof.Machine
end

