-- ==== Sys2Proof/Machine/Channel.lean ====
section
/-! DEFINITION. The ChannelEscaper (47_channel_escaper.md): the command `ENCODE_CHANNEL` and the elements of a channel-safe stream
on read. -/

namespace Sys2Proof.Machine

/-- The channel-safe form of one byte (R270, 30_encoding.md R114). -/
def escapeByte (x : Byte) : List Byte :=
  if x = 0x00#8 then [0x01#8, 0x01#8]
  else if x = 0x01#8 then [0x01#8, 0x02#8]
  else if x = 0xFF#8 then [0x01#8, 0x03#8]
  else [x]

/-- The loop of `EncodeForChannel` (R271). -/
def escapeAll : List Byte → State → State
  | [], s => s
  | x :: xs, s => escapeAll xs (let s1 := appendAll (escapeByte x) s; { s1 with ipos := s1.ipos + 1 })

/-- `ENCODE_CHANNEL` (R271). -/
def execEncodeChannel (_level : BitVec 4) (s : State) : Answer := .next (succeed (escapeAll s.input (start s)))

/-- `ESC_00` (R272). -/
def execEsc00 (s : State) : Answer := .next (append 0x00#8 s)

/-- `ESC_01` (R272). -/
def execEsc01 (s : State) : Answer := .next (append 0x01#8 s)

/-- `ESC_FF` (R272). -/
def execEscFF (s : State) : Answer := .next (append 0xFF#8 s)

/-- `ESC_PLAIN` (R272, R273): a raw `00` or `FF` passes through. -/
def execEscPlain (x : Byte) (s : State) : Answer := .next (append x s)

/-- `ESC_INVALID` (R272): `raise InvalidEscape`. -/
def execEscInvalid (_follower : Option Byte) (s : State) : Answer := .next (raise .invalidEscape s)

end Sys2Proof.Machine
end

