-- ==== Sys2Proof/Machine/Print.lean ====
section
/-! DEFINITION. The Base64Codec (48_base64.md): the command `ENCODE_PRINT`, and the characters of a text on read in the single pass
of R288, whose "success results are identical to rule R285" (log 11). -/

namespace Sys2Proof.Machine

/-- The characters of the indices `0 .. n-1` of a group (R282). -/
def groupChars (grp : BitVec 24) (n : Nat) : List Byte := (List.range n).map fun k => Rom.b64Char (groupIndex grp k)

/-- One group of `EncodeForPrint` (R283): `chars` characters and `pads` padding characters for `bytes` input bytes. -/
def encodeGroup (grp : BitVec 24) (chars pads bytes : Nat) (s : State) : State :=
  let s1 := appendAll (groupChars grp chars ++ List.replicate pads Rom.b64PadChar) { s with grp := grp }
  { s1 with ipos := s1.ipos + bytes }

/-- `EncodeForPrint` (R283): full groups, then a short final group whose missing bytes count as zero. -/
def encodeGroups : List Byte → State → State
  | b0 :: b1 :: b2 :: rest, s => encodeGroups rest (encodeGroup (byteGroup b0 b1 b2) 4 0 3 s)
  | [b0, b1], s => encodeGroup (byteGroup b0 b1 0#8) 3 1 2 s
  | [b0], s => encodeGroup (byteGroup b0 0#8 0#8) 2 2 1 s
  | [], s => s

/-- `ENCODE_PRINT` (R283). -/
def execEncodePrint (_level : BitVec 4) (s : State) : Answer := .next (succeed (encodeGroups s.input (start s)))

/-- How many padding characters the running text has had (R288). -/
def padCount (s : State) : Nat :=
  match s.micro with
  | .printPad n => n
  | _ => 0

/-- An index shifted into the group; the fourth completes it (R288). Four indices fill the group, so it then holds what R285 gives it,
and it keeps that until the next index; what else `grp` and `gcnt` hold after the command is the model's choice (log 13). -/
def shiftIndex (k : Nat) (s : State) : State :=
  let grp := (s.grp <<< 6) ||| BitVec.ofNat 24 k
  if s.gcnt = 3#3 then
    appendAll [groupByte grp 0, groupByte grp 1, groupByte grp 2] { s with grp := grp, gcnt := 0#3 }
  else { s with grp := grp, gcnt := s.gcnt + 1#3 }

/-- A character that must be in the alphabet (R285, R288): after a padding character no such character may follow. -/
def alphabetChar (c : Byte) (s : State) : State :=
  match Rom.b64Inv c with
  | none => raise .invalidBase64 s
  | some k => if padCount s = 0 then shiftIndex k s else raise .invalidBase64 s

/-- `B64_UPPER` (R285). -/
def execB64Upper (c : Byte) (s : State) : Answer := .next (alphabetChar c s)

/-- `B64_LOWER` (R285). -/
def execB64Lower (c : Byte) (s : State) : Answer := .next (alphabetChar c s)

/-- `B64_DIGIT` (R285). -/
def execB64Digit (c : Byte) (s : State) : Answer := .next (alphabetChar c s)

/-- `B64_PLUS` (R285). -/
def execB64Plus (s : State) : Answer := .next (alphabetChar 0x2B#8 s)

/-- `B64_SLASH` (R285). -/
def execB64Slash (s : State) : Answer := .next (alphabetChar 0x2F#8 s)

/-- `B64_PAD` (R288): from now on only padding and whitespace. -/
def execB64Pad (s : State) : Answer := .next { s with micro := .printPad (padCount s + 1) }

/-- `B64_WS` (R284): stripped. -/
def execB64Ws (_c : Byte) (s : State) : Answer := .next s

/-- `B64_INVALID` (R285): `raise InvalidBase64`. -/
def execB64Invalid (_c : Byte) (s : State) : Answer := .next (raise .invalidBase64 s)

/-- A partial last group of `n` bytes, brought to the left of `grp` as R285 has it. -/
def lastGroup (grp : BitVec 24) (n : Nat) (s : State) : State :=
  appendAll ((List.range n).map (groupByte grp)) { s with grp := grp }

/-- The end of the text (R285, R286, R288): the tests on the padding `p` and the characters `r` of the last group, then its bytes. -/
def endOfText (s : State) : State :=
  let p := padCount s
  let r := s.gcnt.toNat
  if 2 < p ∨ r = 1 ∨ (0 < p ∧ (r + p) % 4 ≠ 0) then raise .invalidBase64 s
  else if r = 2 then succeed (lastGroup (s.grp <<< 12) 1 s)
  else if r = 3 then succeed (lastGroup (s.grp <<< 6) 2 s)
  else succeed s

end Sys2Proof.Machine
end

