-- ==== Sys2Proof/Machine/DeflateElements.lean ====
section
/-! DEFINITION. The meanings of the DEFLATE stream elements (44_deflate_decoder.md). Each is what the element does once its bits
have been read: reading them, moving the cursor past them and raising `TruncatedStream` when they are cut is Fetch.lean's. -/

namespace Sys2Proof.Machine

/-! ### Shared steps -/

/-- The answer of an operation that may have raised: `next` either way (60_exceptions.md R330). -/
def answer (f : Flow) : Answer := .next f.state

/-- The end of a block (R213): after the final block the decoder is done, and the command with it unless `DECOMPRESS_ZLIB` called
the decoder (45_zlib.md R245); after any other, the next block header. -/
def endBlock (s : State) : State :=
  if s.bfinal = 1#1 then if s.zlib then { s with micro := .zlibTrailer } else succeed s
  else { s with micro := .blockHeader }

/-- The header reads of the block loop (R213): the latches, and the body that follows. -/
def latchHeader (bfinal : BitVec 1) (btype : BitVec 2) (body : StreamCtx) (s : State) : State :=
  { s with bfinal := bfinal, btype := btype, micro := body }

/-- A block of a type the decoder does not have (R213). -/
def unsupportedBlock (bfinal : BitVec 1) (btype : BitVec 2) (s : State) : State :=
  raise .unsupportedBlockType { s with bfinal := bfinal, btype := btype }

/-- `StoredBlock()` after the alignment and the two length fields (R215): `data` is the bytes that are there, at most LEN. The cursor
stands past them all; where the byte that meets the output bound ends the loop, those behind it have not been read. -/
def storedBlock (len : BitVec 16) (data : List Byte) (s : State) : Flow :=
  let bytes := data.take len.toNat
  match putAll bytes { s with blen := len } with
  | .ok s' => if data.length < len.toNat then .error (raise .truncatedStream s') else .ok (endBlock s')
  | .error s' => .error { s' with rpos := s'.rpos - (bytes.length - (s.maxOut - s.outLen) - 1) }

/-- A literal (R217). -/
def literalElement (x : Byte) (s : State) : Flow :=
  put x { s with sym := x.setWidth 9, micro := .litLen }

/-- The first half of `CopyMatch` (R219): the length of symbol `257 + i` with extra field `e` is latched; a distance follows. -/
def lengthElement (i e : Nat) (s : State) : State :=
  { s with sym := BitVec.ofNat 9 (257 + i), mlen := BitVec.ofNat 9 (lengthOperand i e), micro := .distance }

/-- The second half of `CopyMatch` (R219 to R221): the back-reference check, then the copy. -/
def distanceElement (j e : Nat) (s : State) : Flow :=
  let s1 := { s with mdist := BitVec.ofNat 16 (distanceOperand j e), micro := .litLen }
  if s1.outLen < distanceOperand j e then .error (raise .invalidBackReference s1)
  else copyBytes s1.mlen.toNat (distanceOperand j e) s1

/-! ### Blocks -/

/-- `BLOCK_STORED` (R213, R215). -/
def execBlockStored (bfinal : BitVec 1) (s : State) : Answer := .next (latchHeader bfinal 0#2 .storedBody s)

/-- `BLOCK_FIXED` (R213, R216). -/
def execBlockFixed (bfinal : BitVec 1) (s : State) : Answer := .next (latchHeader bfinal 1#2 .litLen s)

/-- `BLOCK_DYNAMIC` (R213): `raise UnsupportedBlockType`. -/
def execBlockDynamic (bfinal : BitVec 1) (s : State) : Answer := .next (unsupportedBlock bfinal 2#2 s)

/-- `BLOCK_RESERVED` (R213): `raise UnsupportedBlockType`. -/
def execBlockReserved (bfinal : BitVec 1) (s : State) : Answer := .next (unsupportedBlock bfinal 3#2 s)

/-- `STORED_BODY` (R215). The padding and NLEN are not examined. -/
def execStoredBody (_pad : List Bool) (len _nlen : BitVec 16) (data : List Byte) (s : State) : Answer :=
  answer (storedBlock len data s)

/-! ### Literals and the end of a block -/

/-- `LITERAL_0_143` (R217). -/
def execLiteral0To143 (sym : Byte) (s : State) : Answer := answer (literalElement sym s)

/-- `LITERAL_144_255` (R217). -/
def execLiteral144To255 (sym : Byte) (s : State) : Answer := answer (literalElement sym s)

/-- `EOB` (R218). -/
def execEob (s : State) : Answer := .next (endBlock { s with sym := 256#9 })

/-- `LITLEN_RESERVED_286` (41_huffman_tables.md R158): `raise InvalidSymbol`. -/
def execLitlenReserved286 (s : State) : Answer := .next (raise .invalidSymbol s)

/-- `LITLEN_RESERVED_287` (41_huffman_tables.md R158): `raise InvalidSymbol`. -/
def execLitlenReserved287 (s : State) : Answer := .next (raise .invalidSymbol s)

/-! ### Lengths -/

/-- `LENGTH_257` (R219, R156). -/
def execLength257 (s : State) : Answer := .next (lengthElement 0 0 s)

/-- `LENGTH_258` (R219, R156). -/
def execLength258 (s : State) : Answer := .next (lengthElement 1 0 s)

/-- `LENGTH_259` (R219, R156). -/
def execLength259 (s : State) : Answer := .next (lengthElement 2 0 s)

/-- `LENGTH_260` (R219, R156). -/
def execLength260 (s : State) : Answer := .next (lengthElement 3 0 s)

/-- `LENGTH_261` (R219, R156). -/
def execLength261 (s : State) : Answer := .next (lengthElement 4 0 s)

/-- `LENGTH_262` (R219, R156). -/
def execLength262 (s : State) : Answer := .next (lengthElement 5 0 s)

/-- `LENGTH_263` (R219, R156). -/
def execLength263 (s : State) : Answer := .next (lengthElement 6 0 s)

/-- `LENGTH_264` (R219, R156). -/
def execLength264 (s : State) : Answer := .next (lengthElement 7 0 s)

/-- `LENGTH_265` (R219, R156). -/
def execLength265 (extra : BitVec 1) (s : State) : Answer := .next (lengthElement 8 extra.toNat s)

/-- `LENGTH_266` (R219, R156). -/
def execLength266 (extra : BitVec 1) (s : State) : Answer := .next (lengthElement 9 extra.toNat s)

/-- `LENGTH_267` (R219, R156). -/
def execLength267 (extra : BitVec 1) (s : State) : Answer := .next (lengthElement 10 extra.toNat s)

/-- `LENGTH_268` (R219, R156). -/
def execLength268 (extra : BitVec 1) (s : State) : Answer := .next (lengthElement 11 extra.toNat s)

/-- `LENGTH_269` (R219, R156). -/
def execLength269 (extra : BitVec 2) (s : State) : Answer := .next (lengthElement 12 extra.toNat s)

/-- `LENGTH_270` (R219, R156). -/
def execLength270 (extra : BitVec 2) (s : State) : Answer := .next (lengthElement 13 extra.toNat s)

/-- `LENGTH_271` (R219, R156). -/
def execLength271 (extra : BitVec 2) (s : State) : Answer := .next (lengthElement 14 extra.toNat s)

/-- `LENGTH_272` (R219, R156). -/
def execLength272 (extra : BitVec 2) (s : State) : Answer := .next (lengthElement 15 extra.toNat s)

/-- `LENGTH_273` (R219, R156). -/
def execLength273 (extra : BitVec 3) (s : State) : Answer := .next (lengthElement 16 extra.toNat s)

/-- `LENGTH_274` (R219, R156). -/
def execLength274 (extra : BitVec 3) (s : State) : Answer := .next (lengthElement 17 extra.toNat s)

/-- `LENGTH_275` (R219, R156). -/
def execLength275 (extra : BitVec 3) (s : State) : Answer := .next (lengthElement 18 extra.toNat s)

/-- `LENGTH_276` (R219, R156). -/
def execLength276 (extra : BitVec 3) (s : State) : Answer := .next (lengthElement 19 extra.toNat s)

/-- `LENGTH_277` (R219, R156). -/
def execLength277 (extra : BitVec 4) (s : State) : Answer := .next (lengthElement 20 extra.toNat s)

/-- `LENGTH_278` (R219, R156). -/
def execLength278 (extra : BitVec 4) (s : State) : Answer := .next (lengthElement 21 extra.toNat s)

/-- `LENGTH_279` (R219, R156). -/
def execLength279 (extra : BitVec 4) (s : State) : Answer := .next (lengthElement 22 extra.toNat s)

/-- `LENGTH_280` (R219, R156). -/
def execLength280 (extra : BitVec 4) (s : State) : Answer := .next (lengthElement 23 extra.toNat s)

/-- `LENGTH_281` (R219, R156). -/
def execLength281 (extra : BitVec 5) (s : State) : Answer := .next (lengthElement 24 extra.toNat s)

/-- `LENGTH_282` (R219, R156). -/
def execLength282 (extra : BitVec 5) (s : State) : Answer := .next (lengthElement 25 extra.toNat s)

/-- `LENGTH_283` (R219, R156). -/
def execLength283 (extra : BitVec 5) (s : State) : Answer := .next (lengthElement 26 extra.toNat s)

/-- `LENGTH_284` (R219, R156). -/
def execLength284 (extra : BitVec 5) (s : State) : Answer := .next (lengthElement 27 extra.toNat s)

/-- `LENGTH_285` (R219, R156). -/
def execLength285 (s : State) : Answer := .next (lengthElement 28 0 s)

/-! ### Distances -/

/-- `DISTANCE_0` (R219, R157). -/
def execDistance0 (s : State) : Answer := answer (distanceElement 0 0 s)

/-- `DISTANCE_1` (R219, R157). -/
def execDistance1 (s : State) : Answer := answer (distanceElement 1 0 s)

/-- `DISTANCE_2` (R219, R157). -/
def execDistance2 (s : State) : Answer := answer (distanceElement 2 0 s)

/-- `DISTANCE_3` (R219, R157). -/
def execDistance3 (s : State) : Answer := answer (distanceElement 3 0 s)

/-- `DISTANCE_4` (R219, R157). -/
def execDistance4 (extra : BitVec 1) (s : State) : Answer := answer (distanceElement 4 extra.toNat s)

/-- `DISTANCE_5` (R219, R157). -/
def execDistance5 (extra : BitVec 1) (s : State) : Answer := answer (distanceElement 5 extra.toNat s)

/-- `DISTANCE_6` (R219, R157). -/
def execDistance6 (extra : BitVec 2) (s : State) : Answer := answer (distanceElement 6 extra.toNat s)

/-- `DISTANCE_7` (R219, R157). -/
def execDistance7 (extra : BitVec 2) (s : State) : Answer := answer (distanceElement 7 extra.toNat s)

/-- `DISTANCE_8` (R219, R157). -/
def execDistance8 (extra : BitVec 3) (s : State) : Answer := answer (distanceElement 8 extra.toNat s)

/-- `DISTANCE_9` (R219, R157). -/
def execDistance9 (extra : BitVec 3) (s : State) : Answer := answer (distanceElement 9 extra.toNat s)

/-- `DISTANCE_10` (R219, R157). -/
def execDistance10 (extra : BitVec 4) (s : State) : Answer := answer (distanceElement 10 extra.toNat s)

/-- `DISTANCE_11` (R219, R157). -/
def execDistance11 (extra : BitVec 4) (s : State) : Answer := answer (distanceElement 11 extra.toNat s)

/-- `DISTANCE_12` (R219, R157). -/
def execDistance12 (extra : BitVec 5) (s : State) : Answer := answer (distanceElement 12 extra.toNat s)

/-- `DISTANCE_13` (R219, R157). -/
def execDistance13 (extra : BitVec 5) (s : State) : Answer := answer (distanceElement 13 extra.toNat s)

/-- `DISTANCE_14` (R219, R157). -/
def execDistance14 (extra : BitVec 6) (s : State) : Answer := answer (distanceElement 14 extra.toNat s)

/-- `DISTANCE_15` (R219, R157). -/
def execDistance15 (extra : BitVec 6) (s : State) : Answer := answer (distanceElement 15 extra.toNat s)

/-- `DISTANCE_16` (R219, R157). -/
def execDistance16 (extra : BitVec 7) (s : State) : Answer := answer (distanceElement 16 extra.toNat s)

/-- `DISTANCE_17` (R219, R157). -/
def execDistance17 (extra : BitVec 7) (s : State) : Answer := answer (distanceElement 17 extra.toNat s)

/-- `DISTANCE_18` (R219, R157). -/
def execDistance18 (extra : BitVec 8) (s : State) : Answer := answer (distanceElement 18 extra.toNat s)

/-- `DISTANCE_19` (R219, R157). -/
def execDistance19 (extra : BitVec 8) (s : State) : Answer := answer (distanceElement 19 extra.toNat s)

/-- `DISTANCE_20` (R219, R157). -/
def execDistance20 (extra : BitVec 9) (s : State) : Answer := answer (distanceElement 20 extra.toNat s)

/-- `DISTANCE_21` (R219, R157). -/
def execDistance21 (extra : BitVec 9) (s : State) : Answer := answer (distanceElement 21 extra.toNat s)

/-- `DISTANCE_22` (R219, R157). -/
def execDistance22 (extra : BitVec 10) (s : State) : Answer := answer (distanceElement 22 extra.toNat s)

/-- `DISTANCE_23` (R219, R157). -/
def execDistance23 (extra : BitVec 10) (s : State) : Answer := answer (distanceElement 23 extra.toNat s)

/-- `DISTANCE_24` (R219, R157). -/
def execDistance24 (extra : BitVec 11) (s : State) : Answer := answer (distanceElement 24 extra.toNat s)

/-- `DISTANCE_25` (R219, R157). -/
def execDistance25 (extra : BitVec 11) (s : State) : Answer := answer (distanceElement 25 extra.toNat s)

/-- `DISTANCE_26` (R219, R157). -/
def execDistance26 (extra : BitVec 12) (s : State) : Answer := answer (distanceElement 26 extra.toNat s)

/-- `DISTANCE_27` (R219, R157). -/
def execDistance27 (extra : BitVec 12) (s : State) : Answer := answer (distanceElement 27 extra.toNat s)

/-- `DISTANCE_28` (R219, R157). -/
def execDistance28 (extra : BitVec 13) (s : State) : Answer := answer (distanceElement 28 extra.toNat s)

/-- `DISTANCE_29` (R219, R157). -/
def execDistance29 (extra : BitVec 13) (s : State) : Answer := answer (distanceElement 29 extra.toNat s)

/-- `DISTANCE_RESERVED_30` (41_huffman_tables.md R159): `raise InvalidSymbol`. -/
def execDistanceReserved30 (s : State) : Answer := .next (raise .invalidSymbol s)

/-- `DISTANCE_RESERVED_31` (41_huffman_tables.md R159): `raise InvalidSymbol`. -/
def execDistanceReserved31 (s : State) : Answer := .next (raise .invalidSymbol s)

end Sys2Proof.Machine
end

