-- ==== Sys2Proof/Machine/Fetch.lean ====
section
/-! DEFINITION. Reading the next stream element of a running decoder: where its bits lie, the cursor moved past them, and the
failure when they are cut (40_bitstream.md R136, 10_state.md R38). -/

namespace Sys2Proof.Machine

/-- The bits the running decoder has not read yet. The DEFLATE decoder reads at the bit cursor; the zlib header and trailer lie at
fixed places (45_zlib.md R245); the channel and print decoders read at `ipos`. -/
def unreadBits (s : State) : List Bool :=
  match s.micro with
  | .blockHeader => readerBits s
  | .storedBody => readerBits s
  | .litLen => readerBits s
  | .distance => readerBits s
  | .zlibCmf => bytesBits (s.inBuf.bytes 0 s.inLen)
  | .zlibFlg => bytesBits (s.inBuf.bytes 1 (s.inLen - 1))
  | .zlibPayload => []
  | .zlibTrailer => bytesBits (s.inBuf.bytes (s.inLen - 4) (s.inLen - (s.inLen - 4)))
  | .escape => bytesBits (s.inBuf.bytes s.ipos (s.inLen - s.ipos))
  | .print => bytesBits (s.inBuf.bytes s.ipos (s.inLen - s.ipos))
  | .printPad _ => bytesBits (s.inBuf.bytes s.ipos (s.inLen - s.ipos))

/-- The cursor of the running decoder `n` bits on (10_state.md R38). -/
def moveCursor (n : Nat) (s : State) : State :=
  match s.micro with
  | .blockHeader => advanceBits n s
  | .storedBody => advanceBits n s
  | .litLen => advanceBits n s
  | .distance => advanceBits n s
  | .zlibCmf => s
  | .zlibFlg => s
  | .zlibPayload => s
  | .zlibTrailer => s
  | .escape => { s with ipos := s.ipos + n / 8 }
  | .print => { s with ipos := s.ipos + n / 8 }
  | .printPad _ => { s with ipos := s.ipos + n / 8 }

/-- The running decoder after the reads of an element whose bits end too soon: each read before the one that fails keeps what it
consumed and what it latched (41_huffman_tables.md R158, R159, 44_deflate_decoder.md R213, R215, R216, R219), and the one that
fails consumes nothing (40_bitstream.md R136). A code is read bit by bit, so a cut code consumes every bit there is. The other
decoders test the length before they read. -/
def cutElement (s : State) : State :=
  match s.micro with
  | .blockHeader =>
    match takeLsb 1 (readerBits s) with
    | some (f, _) => { advanceBits 1 s with bfinal := BitVec.ofNat 1 f }
    | none => s
  | .storedBody =>
    match takeLsb 16 (readerBits (alignByte s)) with
    | some (len, _) => { advanceBits 16 (alignByte s) with blen := BitVec.ofNat 16 len }
    | none => alignByte s
  | .litLen =>
    match decodeLitLen (readerBits s) with
    | some (sym, rest) => { advanceBits (bitsLeft s - rest.length) s with sym := BitVec.ofNat 9 sym }
    | none => advanceBits (bitsLeft s) s
  | .distance => advanceBits (min 5 (bitsLeft s)) s
  | .zlibCmf => s
  | .zlibFlg => s
  | .zlibPayload => s
  | .zlibTrailer => s
  | .escape => s
  | .print => s
  | .printPad _ => s

/-- What a running decoder meets next. -/
inductive Fetched
  /-- An element, and the state with the cursor past it. -/
  | element (i : Instr) (s : State)
  /-- A failure, and the state the reads before it left. -/
  | failed (k : ErrorKind) (s : State)
  /-- The end of a byte-oriented input. -/
  | endOfInput

/-- The next element of the running decoder. -/
def fetch (s : State) : Fetched :=
  match decodeStream s.micro s.rbit.toNat (unreadBits s) with
  | .ok (i, rest) => .element i (moveCursor ((unreadBits s).length - rest.length) s)
  | .error .truncated => .failed .truncatedStream (cutElement s)
  | .error .endOfInput => .endOfInput

/-- A running decoder whose input is `xs` and whose next element is read from the beginning of `xs`. -/
def State.withStream (s : State) (ctx : StreamCtx) (xs : List Byte) : State :=
  { s with
    status := statusRunning, micro := ctx, inBuf := Memory.ofBytes xs, inLen := xs.length, ipos := 0,
    rbase := 0, rpos := 0, rbit := 0#3, rend := xs.length }

/-- `run` for at most `n` rounds while `going` holds. -/
def runWhile (going : State → Bool) (run : State → Answer) : Nat → State → Answer
  | 0, s => .next s
  | n + 1, s =>
    if going s then
      match run s with
      | .next s' => runWhile going run n s'
      | .fault f => .fault f
      | .refused r => .refused r
    else .next s

end Sys2Proof.Machine
end

