-- ==== Sys2Proof/Machine/Inflate.lean ====
section
/-! DEFINITION. The DEFLATE decoder (44_deflate_decoder.md R213 to R216): its stream read element by element until the final block
ends or an element raises; and the command `DECOMPRESS`. -/

namespace Sys2Proof.Machine

/-- The meaning of an element of a DEFLATE stream. -/
def deflateElement (i : Instr) (s : State) : Answer :=
  match i with
  | .compress _ => .fault .strayElement
  | .decompress _ => .fault .strayElement
  | .compressZlib _ => .fault .strayElement
  | .decompressZlib _ => .fault .strayElement
  | .encodeChannel _ => .fault .strayElement
  | .decodeChannel _ => .fault .strayElement
  | .encodePrint _ => .fault .strayElement
  | .decodePrint _ => .fault .strayElement
  | .adler32 _ => .fault .strayElement
  | .illegalOp0 _ => .fault .strayElement
  | .illegalOpAB _ _ => .fault .strayElement
  | .illegalOpCF _ _ => .fault .strayElement
  | .illegalLevel1011 _ _ => .fault .strayElement
  | .illegalLevel1215 _ _ => .fault .strayElement
  | .blockStored bfinal => execBlockStored bfinal s
  | .blockFixed bfinal => execBlockFixed bfinal s
  | .blockDynamic bfinal => execBlockDynamic bfinal s
  | .blockReserved bfinal => execBlockReserved bfinal s
  | .storedBody pad len nlen data => execStoredBody pad len nlen data s
  | .literal0To143 sym => execLiteral0To143 sym s
  | .literal144To255 sym => execLiteral144To255 sym s
  | .eob => execEob s
  | .length257 => execLength257 s
  | .length258 => execLength258 s
  | .length259 => execLength259 s
  | .length260 => execLength260 s
  | .length261 => execLength261 s
  | .length262 => execLength262 s
  | .length263 => execLength263 s
  | .length264 => execLength264 s
  | .length265 extra => execLength265 extra s
  | .length266 extra => execLength266 extra s
  | .length267 extra => execLength267 extra s
  | .length268 extra => execLength268 extra s
  | .length269 extra => execLength269 extra s
  | .length270 extra => execLength270 extra s
  | .length271 extra => execLength271 extra s
  | .length272 extra => execLength272 extra s
  | .length273 extra => execLength273 extra s
  | .length274 extra => execLength274 extra s
  | .length275 extra => execLength275 extra s
  | .length276 extra => execLength276 extra s
  | .length277 extra => execLength277 extra s
  | .length278 extra => execLength278 extra s
  | .length279 extra => execLength279 extra s
  | .length280 extra => execLength280 extra s
  | .length281 extra => execLength281 extra s
  | .length282 extra => execLength282 extra s
  | .length283 extra => execLength283 extra s
  | .length284 extra => execLength284 extra s
  | .length285 => execLength285 s
  | .litlenReserved286 => execLitlenReserved286 s
  | .litlenReserved287 => execLitlenReserved287 s
  | .distance0 => execDistance0 s
  | .distance1 => execDistance1 s
  | .distance2 => execDistance2 s
  | .distance3 => execDistance3 s
  | .distance4 extra => execDistance4 extra s
  | .distance5 extra => execDistance5 extra s
  | .distance6 extra => execDistance6 extra s
  | .distance7 extra => execDistance7 extra s
  | .distance8 extra => execDistance8 extra s
  | .distance9 extra => execDistance9 extra s
  | .distance10 extra => execDistance10 extra s
  | .distance11 extra => execDistance11 extra s
  | .distance12 extra => execDistance12 extra s
  | .distance13 extra => execDistance13 extra s
  | .distance14 extra => execDistance14 extra s
  | .distance15 extra => execDistance15 extra s
  | .distance16 extra => execDistance16 extra s
  | .distance17 extra => execDistance17 extra s
  | .distance18 extra => execDistance18 extra s
  | .distance19 extra => execDistance19 extra s
  | .distance20 extra => execDistance20 extra s
  | .distance21 extra => execDistance21 extra s
  | .distance22 extra => execDistance22 extra s
  | .distance23 extra => execDistance23 extra s
  | .distance24 extra => execDistance24 extra s
  | .distance25 extra => execDistance25 extra s
  | .distance26 extra => execDistance26 extra s
  | .distance27 extra => execDistance27 extra s
  | .distance28 extra => execDistance28 extra s
  | .distance29 extra => execDistance29 extra s
  | .distanceReserved30 => execDistanceReserved30 s
  | .distanceReserved31 => execDistanceReserved31 s
  | .zlibCmf _ => .fault .strayElement
  | .zlibFlg _ => .fault .strayElement
  | .zlibPayload => .fault .strayElement
  | .zlibAdler32 _ => .fault .strayElement
  | .esc00 => .fault .strayElement
  | .esc01 => .fault .strayElement
  | .escFF => .fault .strayElement
  | .escPlain _ => .fault .strayElement
  | .escInvalid _ => .fault .strayElement
  | .b64Upper _ => .fault .strayElement
  | .b64Lower _ => .fault .strayElement
  | .b64Digit _ => .fault .strayElement
  | .b64Plus => .fault .strayElement
  | .b64Slash => .fault .strayElement
  | .b64Pad => .fault .strayElement
  | .b64Ws _ => .fault .strayElement
  | .b64Invalid _ => .fault .strayElement

/-- One element of the DEFLATE stream at the bit cursor. -/
def deflateStep (s : State) : Answer :=
  match fetch s with
  | .element i s' => deflateElement i s'
  | .failed k s' => .next (raise k s')
  | .endOfInput => .next s

/-- The DEFLATE decoder is running: the command has not ended and its next element is one of a DEFLATE stream. -/
def inflating (s : State) : Bool :=
  s.busy &&
    match s.micro with
    | .blockHeader => true
    | .storedBody => true
    | .litLen => true
    | .distance => true
    | .zlibCmf => false
    | .zlibFlg => false
    | .zlibPayload => false
    | .zlibTrailer => false
    | .escape => false
    | .print => false
    | .printPad _ => false

/-- `Decompress()` from the bit cursor on (R213). Each element takes at least one bit (R223), so the rounds allowed are never
used up. -/
def inflate (s : State) : Answer := runWhile inflating deflateStep (bitsLeft s + 1) s

/-- The DEFLATE decoder at its first block header (R211), called by `DECOMPRESS` or by `DECOMPRESS_ZLIB`. -/
def atFirstBlock (zlib : Bool) (s : State) : State := { s with micro := .blockHeader, zlib := zlib }

/-- `DECOMPRESS` (R210, R213). -/
def execDecompress (_level : BitVec 4) (s : State) : Answer := inflate (atFirstBlock false (start s))

end Sys2Proof.Machine
end

