-- ==== Sys2Proof/Machine/Zlib.lean ====
section
/-! DEFINITION. The elements of the zlib envelope on read (45_zlib.md R244 to R247). -/

namespace Sys2Proof.Machine

/-- The compression method test of `HeaderCheck` (R244). -/
def methodIsDeflate (cmf : Byte) : Bool := cmf.extractLsb' 0 4 == 8#4

/-- `HeaderCheck` (R244): none of its three tests raises. -/
def headerCheck (cmf flg : Byte) : Bool :=
  methodIsDeflate cmf && decide ((cmf.toNat * 256 + flg.toNat) % 31 = 0) && !flg.getLsbD 5

/-- `ZLIB_CMF` (R244, R245, R246): the length test (1), then the method test. -/
def execZlibCmf (cmf : Byte) (s : State) : Answer :=
  if s.inLen < 2 then .next (raise .truncatedStream s)
  else if methodIsDeflate cmf then .next { s with micro := .zlibFlg }
  else .next (raise .invalidHeader s)

/-- `ZLIB_FLG` (R244): `HeaderCheck(IN[0], flg)`. -/
def execZlibFlg (flg : Byte) (s : State) : Answer :=
  if headerCheck (s.inBuf.read 0) flg then .next { s with micro := .zlibPayload }
  else .next (raise .invalidHeader s)

/-- `ZLIB_PAYLOAD` (R245, R246): the length test (3), then the DEFLATE decoder over `IN[2..IN_LEN-4]`. -/
def execZlibPayload (s : State) : Answer :=
  if s.inLen < 6 then .next (raise .truncatedStream s)
  else inflate (atFirstBlock true { s with rbase := 2, rend := s.inLen - 4, rpos := 2, rbit := 0#3 })

/-- `ZLIB_ADLER32` (R245, R247): the checksum of the decoded bytes, into `RESULT` whether or not it matches. -/
def execZlibAdler32 (sum : BitVec 32) (s : State) : Answer :=
  let s1 := adlerPass s.output s
  let s2 := { s1 with result := adlerValue s1 }
  .next (if adlerValue s1 = sum then succeed s2 else raise .checksumMismatch s2)

end Sys2Proof.Machine
end

