-- ==== Sys2Proof/Machine/Stream.lean ====
section
/-! DEFINITION. A running decoder, element by element, and the commands `DECOMPRESS_ZLIB`, `DECODE_CHANNEL` and `DECODE_PRINT`. -/

namespace Sys2Proof.Machine

/-- The meaning of an element of any stream. The elements of the last lines of `Instr` are listed; `deflateElement` lists all the
others. -/
def streamElement (i : Instr) (s : State) : Answer :=
  match i with
  | .zlibCmf cmf => execZlibCmf cmf s
  | .zlibFlg flg => execZlibFlg flg s
  | .zlibPayload => execZlibPayload s
  | .zlibAdler32 sum => execZlibAdler32 sum s
  | .esc00 => execEsc00 s
  | .esc01 => execEsc01 s
  | .escFF => execEscFF s
  | .escPlain x => execEscPlain x s
  | .escInvalid follower => execEscInvalid follower s
  | .b64Upper c => execB64Upper c s
  | .b64Lower c => execB64Lower c s
  | .b64Digit c => execB64Digit c s
  | .b64Plus => execB64Plus s
  | .b64Slash => execB64Slash s
  | .b64Pad => execB64Pad s
  | .b64Ws c => execB64Ws c s
  | .b64Invalid c => execB64Invalid c s
  | other => deflateElement other s

/-- The end of a byte-oriented input (47_channel_escaper.md R272, 48_base64.md R285): the print decoder still has its last group. -/
def endOfInput (s : State) : State :=
  match s.micro with
  | .blockHeader => succeed s
  | .storedBody => succeed s
  | .litLen => succeed s
  | .distance => succeed s
  | .zlibCmf => succeed s
  | .zlibFlg => succeed s
  | .zlibPayload => succeed s
  | .zlibTrailer => succeed s
  | .escape => succeed s
  | .print => endOfText s
  | .printPad _ => endOfText s

/-- One move of a running decoder: the next element, run by `run`; a failure; or the end of the input. -/
def streamStepWith (run : Instr → State → Answer) (s : State) : Answer :=
  match fetch s with
  | .element i s' => run i s'
  | .failed k s' => .next (raise k s')
  | .endOfInput => .next (endOfInput s)

/-- One move of a running decoder. -/
def streamStep (s : State) : Answer := streamStepWith streamElement s

/-- The moves of a running decoder until its command ends, `n` at most. -/
def runStream (n : Nat) (s : State) : Answer := runWhile State.busy streamStep n s

/-- `DECOMPRESS_ZLIB` (45_zlib.md R245): header, payload and trailer, four elements. -/
def execDecompressZlib (_level : BitVec 4) (s : State) : Answer := runStream 4 { start s with micro := .zlibCmf }

/-- `DECODE_CHANNEL` (47_channel_escaper.md R272): at most one element a byte, then the end of the input. -/
def execDecodeChannel (_level : BitVec 4) (s : State) : Answer :=
  runStream (s.inLen + 1) { start s with micro := .escape }

/-- `DECODE_PRINT` (48_base64.md R285, R288): one element a byte, then the end of the input. -/
def execDecodePrint (_level : BitVec 4) (s : State) : Answer :=
  runStream (s.inLen + 1) { start s with micro := .print }

end Sys2Proof.Machine
end

