-- ==== Sys2Proof/Machine/Dispatch.lean ====
section
/-! DEFINITION. One arm per instruction. -/

namespace Sys2Proof.Machine

def exec (i : Instr) (s : State) : Host.Outcome State Fault Refusal :=
  match i with
  | .compress level => Sys2Proof.Machine.execCompress level s
  | .decompress level => Sys2Proof.Machine.execDecompress level s
  | .compressZlib level => Sys2Proof.Machine.execCompressZlib level s
  | .decompressZlib level => Sys2Proof.Machine.execDecompressZlib level s
  | .encodeChannel level => Sys2Proof.Machine.execEncodeChannel level s
  | .decodeChannel level => Sys2Proof.Machine.execDecodeChannel level s
  | .encodePrint level => Sys2Proof.Machine.execEncodePrint level s
  | .decodePrint level => Sys2Proof.Machine.execDecodePrint level s
  | .adler32 level => Sys2Proof.Machine.execAdler32 level s
  | .illegalOp0 level => Sys2Proof.Machine.execIllegalOp0 level s
  | .illegalOpAB low level => Sys2Proof.Machine.execIllegalOpAB low level s
  | .illegalOpCF low level => Sys2Proof.Machine.execIllegalOpCF low level s
  | .illegalLevel1011 zlib low => Sys2Proof.Machine.execIllegalLevel1011 zlib low s
  | .illegalLevel1215 zlib low => Sys2Proof.Machine.execIllegalLevel1215 zlib low s
  | .blockStored bfinal => Sys2Proof.Machine.execBlockStored bfinal s
  | .blockFixed bfinal => Sys2Proof.Machine.execBlockFixed bfinal s
  | .blockDynamic bfinal => Sys2Proof.Machine.execBlockDynamic bfinal s
  | .blockReserved bfinal => Sys2Proof.Machine.execBlockReserved bfinal s
  | .storedBody pad len nlen data => Sys2Proof.Machine.execStoredBody pad len nlen data s
  | .literal0To143 sym => Sys2Proof.Machine.execLiteral0To143 sym s
  | .literal144To255 sym => Sys2Proof.Machine.execLiteral144To255 sym s
  | .eob => Sys2Proof.Machine.execEob s
  | .length257 => Sys2Proof.Machine.execLength257 s
  | .length258 => Sys2Proof.Machine.execLength258 s
  | .length259 => Sys2Proof.Machine.execLength259 s
  | .length260 => Sys2Proof.Machine.execLength260 s
  | .length261 => Sys2Proof.Machine.execLength261 s
  | .length262 => Sys2Proof.Machine.execLength262 s
  | .length263 => Sys2Proof.Machine.execLength263 s
  | .length264 => Sys2Proof.Machine.execLength264 s
  | .length265 extra => Sys2Proof.Machine.execLength265 extra s
  | .length266 extra => Sys2Proof.Machine.execLength266 extra s
  | .length267 extra => Sys2Proof.Machine.execLength267 extra s
  | .length268 extra => Sys2Proof.Machine.execLength268 extra s
  | .length269 extra => Sys2Proof.Machine.execLength269 extra s
  | .length270 extra => Sys2Proof.Machine.execLength270 extra s
  | .length271 extra => Sys2Proof.Machine.execLength271 extra s
  | .length272 extra => Sys2Proof.Machine.execLength272 extra s
  | .length273 extra => Sys2Proof.Machine.execLength273 extra s
  | .length274 extra => Sys2Proof.Machine.execLength274 extra s
  | .length275 extra => Sys2Proof.Machine.execLength275 extra s
  | .length276 extra => Sys2Proof.Machine.execLength276 extra s
  | .length277 extra => Sys2Proof.Machine.execLength277 extra s
  | .length278 extra => Sys2Proof.Machine.execLength278 extra s
  | .length279 extra => Sys2Proof.Machine.execLength279 extra s
  | .length280 extra => Sys2Proof.Machine.execLength280 extra s
  | .length281 extra => Sys2Proof.Machine.execLength281 extra s
  | .length282 extra => Sys2Proof.Machine.execLength282 extra s
  | .length283 extra => Sys2Proof.Machine.execLength283 extra s
  | .length284 extra => Sys2Proof.Machine.execLength284 extra s
  | .length285 => Sys2Proof.Machine.execLength285 s
  | .litlenReserved286 => Sys2Proof.Machine.execLitlenReserved286 s
  | .litlenReserved287 => Sys2Proof.Machine.execLitlenReserved287 s
  | .distance0 => Sys2Proof.Machine.execDistance0 s
  | .distance1 => Sys2Proof.Machine.execDistance1 s
  | .distance2 => Sys2Proof.Machine.execDistance2 s
  | .distance3 => Sys2Proof.Machine.execDistance3 s
  | .distance4 extra => Sys2Proof.Machine.execDistance4 extra s
  | .distance5 extra => Sys2Proof.Machine.execDistance5 extra s
  | .distance6 extra => Sys2Proof.Machine.execDistance6 extra s
  | .distance7 extra => Sys2Proof.Machine.execDistance7 extra s
  | .distance8 extra => Sys2Proof.Machine.execDistance8 extra s
  | .distance9 extra => Sys2Proof.Machine.execDistance9 extra s
  | .distance10 extra => Sys2Proof.Machine.execDistance10 extra s
  | .distance11 extra => Sys2Proof.Machine.execDistance11 extra s
  | .distance12 extra => Sys2Proof.Machine.execDistance12 extra s
  | .distance13 extra => Sys2Proof.Machine.execDistance13 extra s
  | .distance14 extra => Sys2Proof.Machine.execDistance14 extra s
  | .distance15 extra => Sys2Proof.Machine.execDistance15 extra s
  | .distance16 extra => Sys2Proof.Machine.execDistance16 extra s
  | .distance17 extra => Sys2Proof.Machine.execDistance17 extra s
  | .distance18 extra => Sys2Proof.Machine.execDistance18 extra s
  | .distance19 extra => Sys2Proof.Machine.execDistance19 extra s
  | .distance20 extra => Sys2Proof.Machine.execDistance20 extra s
  | .distance21 extra => Sys2Proof.Machine.execDistance21 extra s
  | .distance22 extra => Sys2Proof.Machine.execDistance22 extra s
  | .distance23 extra => Sys2Proof.Machine.execDistance23 extra s
  | .distance24 extra => Sys2Proof.Machine.execDistance24 extra s
  | .distance25 extra => Sys2Proof.Machine.execDistance25 extra s
  | .distance26 extra => Sys2Proof.Machine.execDistance26 extra s
  | .distance27 extra => Sys2Proof.Machine.execDistance27 extra s
  | .distance28 extra => Sys2Proof.Machine.execDistance28 extra s
  | .distance29 extra => Sys2Proof.Machine.execDistance29 extra s
  | .distanceReserved30 => Sys2Proof.Machine.execDistanceReserved30 s
  | .distanceReserved31 => Sys2Proof.Machine.execDistanceReserved31 s
  | .zlibCmf cmf => Sys2Proof.Machine.execZlibCmf cmf s
  | .zlibFlg flg => Sys2Proof.Machine.execZlibFlg flg s
  | .zlibPayload => Sys2Proof.Machine.execZlibPayload s
  | .zlibAdler32 sum => Sys2Proof.Machine.execZlibAdler32 sum s
  | .esc00 => Sys2Proof.Machine.execEsc00 s
  | .esc01 => Sys2Proof.Machine.execEsc01 s
  | .escFF => Sys2Proof.Machine.execEscFF s
  | .escPlain x => Sys2Proof.Machine.execEscPlain x s
  | .escInvalid follower => Sys2Proof.Machine.execEscInvalid follower s
  | .b64Upper c => Sys2Proof.Machine.execB64Upper c s
  | .b64Lower c => Sys2Proof.Machine.execB64Lower c s
  | .b64Digit c => Sys2Proof.Machine.execB64Digit c s
  | .b64Plus => Sys2Proof.Machine.execB64Plus s
  | .b64Slash => Sys2Proof.Machine.execB64Slash s
  | .b64Pad => Sys2Proof.Machine.execB64Pad s
  | .b64Ws c => Sys2Proof.Machine.execB64Ws c s
  | .b64Invalid c => Sys2Proof.Machine.execB64Invalid c s

end Sys2Proof.Machine
end

