-- ==== Sys2Proof/Machine/HostPort.lean ====
section
/-! DEFINITION. The host's moves other than START (49_host_interface.md R305, 70_reset_and_hazards.md R360, R365, R371): register
and buffer writes and reads between commands, reads of the result, and reset. A move the host does not have answers `none` (log 7). -/

namespace Sys2Proof.Machine

/-- The host writes `CMD` (R365), not while a command runs (R371). -/
def hostWriteCmd (w : BitVec 8) (s : State) : Option State := if s.busy then none else some { s with cmd := w }

/-- The host writes `IN_LEN` (R365, R371). -/
def hostWriteInLen (n : Nat) (s : State) : Option State := if s.busy then none else some { s with inLen := n }

/-- The host writes `MAXOUT` (R365, R371). -/
def hostWriteMaxOut (n : Nat) (s : State) : Option State := if s.busy then none else some { s with maxOut := n }

/-- The host writes one byte of `IN` (R61, R365, R371). -/
def hostWriteIn (i : Nat) (x : Byte) (s : State) : Option State :=
  if s.busy then none else some { s with inBuf := s.inBuf.write i x }

/-- The host places the bytes of an input in `IN[0..n]` and writes `IN_LEN` (R365). What `IN` holds at or beyond `n` the spec leaves
open (R61): the model's choice is that those bytes stay as they were (log 19). -/
def hostLoad (xs : List Byte) (s : State) : Option State :=
  if s.busy then none else some { s with inBuf := s.inBuf.writeBytes 0 xs, inLen := xs.length }

/-- The host reads `STATUS`, at any time (R305). -/
def hostReadStatus (s : State) : BitVec 8 := s.status

/-- The host reads `CMD` (10_state.md R21), not while a command runs (R305). -/
def hostReadCmd (s : State) : Option (BitVec 8) := if s.busy then none else some s.cmd

/-- The host reads `IN_LEN` (10_state.md R23), not while a command runs (R305). -/
def hostReadInLen (s : State) : Option Nat := if s.busy then none else some s.inLen

/-- The host reads `MAXOUT` (10_state.md R25), not while a command runs (R305). -/
def hostReadMaxOut (s : State) : Option Nat := if s.busy then none else some s.maxOut

/-- The host reads byte `i` of `IN` (20_memory.md R60), not while a command runs (R305). It may read the bytes it may write, those
at or beyond `IN_LEN` too (log 19). -/
def hostReadIn (i : Nat) (s : State) : Option Byte := if s.busy then none else some (s.inBuf.read i)

/-- The host reads `OUT_LEN`, when a command is done (R305). -/
def hostReadOutLen (s : State) : Option Nat := if s.done then some s.outLen else none

/-- The host reads `RESULT`, when a command is done (R305). -/
def hostReadResult (s : State) : Option (BitVec 32) := if s.done then some s.result else none

/-- The host reads byte `i` of `OUT`, when a command is done and the byte is valid (R305, R60). -/
def hostReadOut (i : Nat) (s : State) : Option Byte :=
  if s.done && decide (i < s.outLen) then some (s.outBuf.read i) else none

/-- Reset, at any time (R360, R361): the registers as after power-on. What the spec leaves unspecified takes the values of
`State.reset` (log 4, log 5); the model's counter of free values goes on (log 3). -/
def hostReset (s : State) : State := { State.reset with draws := s.draws }

end Sys2Proof.Machine
end

