-- ==== Sys2Proof/Machine/Step.lean ====
section
/-! DEFINITION. One step. With `busy = 0` it is the host's START: one whole command, in one atomic transition (00_scope.md R16).
With `busy = 1`, which no command leaves and no run from reset reaches, it is the running decoder's next stream element
(10_state.md R28; log 2). -/

namespace Sys2Proof.Machine

def step (s : State) : Host.Outcome State Fault Refusal :=
  if s.busy then streamStepWith exec s else exec (decodeCommand s.cmd) s

/-- `s` with a table word where the next step fetches its instruction (log 8): a word of 8 bits in `CMD`, with no command running;
a longer one at the head of `IN`, with the decoder of its stream running. -/
def State.withFetchWord (s : State) (nbits w : Nat) : State :=
  if nbits = 8 then { s with cmd := BitVec.ofNat 8 w, status := s.status &&& 0xFE#8 }
  else
    match tableStream nbits w with
    | none => s
    | some (ctx, bs) => s.withStream ctx (packBits (bs.length / 8) bs)

end Sys2Proof.Machine
end

