-- ==== Sys2Proof/Safety.lean ====
section
/-! DEFINITION. What a safe run is: every step answers a next state, and every state of the run meets `State.inv`. Nothing the
engine does can leave these states (60_exceptions.md R335, 70_reset_and_hazards.md R375). -/

namespace Sys2Proof.Machine

/-- The codes `STATUS.err` ever holds (60_exceptions.md R320): 0, 1 to 9 and 15. -/
def legalErr (e : BitVec 4) : Bool := decide (e.toNat ≤ 9) || decide (e.toNat = 15)

/-- `STATUS` (10_state.md R22): the reserved bit reads 0, `busy` and `done` are never both 1, `ok = 1` if and only if `err = 0`
whenever `done = 1`, and `err` holds a code of R320. -/
def State.statusOk (s : State) : Bool :=
  !s.statusReserved && !(s.busy && s.done) && (!s.done || (s.ok == decide (s.err = 0#4))) && legalErr s.err

/-- Every address a memory lists is below `n`. -/
def Memory.below (n : Nat) (m : Memory) : Bool := m.all fun cell => decide (cell.1 < n)

/-- The memories are in canonical form, `OUT` lists nothing at or beyond `OUT_LEN` (20_memory.md R60, R62), and `WIN` nothing at or
beyond its 32768 bytes (R64). -/
def State.memoriesOk (s : State) : Bool :=
  s.inBuf.wf && s.outBuf.wf && s.win.wf && s.outBuf.below s.outLen && s.win.below Rom.windowSize

/-- The ranges of the datapath registers: bits `wcnt` and above of `wacc` are 0 (10_state.md R30), the sums are reduced (R33,
46_adler32.md R261), `wfill` is at most 32768 (R34), and between two characters `gcnt` is at most 3 (R36). -/
def State.datapathOk (s : State) : Bool :=
  decide (s.wacc.toNat < 2 ^ s.wcnt.toNat) && decide (s.a.toNat < Rom.adlerMod) && decide (s.b.toNat < Rom.adlerMod) &&
    decide (s.wfill.toNat ≤ Rom.windowSize) && decide (s.gcnt.toNat ≤ 3)

/-- The cursors of a running command (10_state.md R29, R31, R32): `rpos <= rend`, `rpos = rend` implies `rbit = 0`, and neither
the reader's bound nor `ipos` lies beyond `IN_LEN`. -/
def State.cursorsOk (s : State) : Bool :=
  decide (s.rbase ≤ s.rpos) && decide (s.rpos ≤ s.rend) && decide (s.rend ≤ s.inLen) &&
    (decide (s.rpos ≠ s.rend) || decide (s.rbit = 0#3)) && decide (s.ipos ≤ s.inLen)

/-- The invariant of the machine. The cursors mean something only while a command runs (10_state.md R20). -/
def State.inv (s : State) : Bool := s.statusOk && s.memoriesOk && s.datapathOk && (!s.busy || s.cursorsOk)

/-- The window invariant of the decoder (20_memory.md R65). -/
def State.windowOk (s : State) : Prop :=
  s.wfill.toNat = min s.outLen Rom.windowSize ∧ s.wptr.toNat = s.outLen % Rom.windowSize ∧
    ∀ d, 1 ≤ d → d ≤ s.wfill.toNat → winAt d s = s.outBuf.read (s.outLen - d)

/-- The lengths fit the registers of an instance with `LEN_BITS` wide length registers (00_scope.md R14). The model itself is
unbounded; what it says of such an instance holds under this premise, before and after the command (log 9). -/
def State.lengthsFit (s : State) : Prop :=
  s.inLen < 2 ^ Config.lenBits ∧ s.outLen < 2 ^ Config.lenBits ∧ s.maxOut < 2 ^ Config.lenBits

/-- One step is safe: the engine goes on, in a state that meets the invariant. -/
def State.safeStep (s : State) : Prop := ∃ t, step s = .next t ∧ t.inv = true

end Sys2Proof.Machine
end

