-- ==== Sys2Proof/Certificates/Slice0/Obligations.lean ====
section
/-! DEFINITION. The statements for the provers. `Sys2Proof.Ref` holds what the statements compare the machine with: the spec's
formats, sequences and sums written over plain lists, apart from the machine's own definitions. -/

open Sys2Proof Sys2Proof.Machine

namespace Sys2Proof.Ref

/-! ### Ends of a command -/

/-- `t` is `s` ended by a failure with this `STATUS` word. Only `STATUS` and `OUT` differ: what `OUT` and `OUT_LEN` hold then is
any value (60_exceptions.md R332; log 3), and `draws` is the model's counter of such values. -/
def failedAs (w : BitVec 8) (s t : State) : Prop :=
  t = { s with status := w, outBuf := t.outBuf, outLen := t.outLen, draws := t.draws }

/-- `t` is `s` after an operation that produced bytes in `OUT` and pushed them into the window; everything else is as in `s`. -/
def producedFrom (s t : State) : Prop :=
  t = { s with outBuf := t.outBuf, outLen := t.outLen, win := t.win, wptr := t.wptr, wfill := t.wfill }

/-- The bytes of `OUT` below `OUT_LEN` are those of `s` followed by `xs`, and every byte of `OUT` beyond them is unchanged. -/
def outputGrewBy (xs : List Byte) (s t : State) : Prop :=
  t.outLen = s.outLen + xs.length ∧ (∀ a, a < s.outLen → t.outBuf.read a = s.outBuf.read a) ∧
    (∀ k, k < xs.length → t.outBuf.read (s.outLen + k) = xs.getD k 0) ∧
    (∀ a, s.outLen + xs.length ≤ a → t.outBuf.read a = s.outBuf.read a)

/-- The window of `t` is that of `s` with `xs`, the bytes `WinPush` took, written from `wptr` on, modulo 32768 (20_memory.md R64):
the last 32768 of them at most, and no other address. -/
def windowGrewBy (xs : List Byte) (s t : State) : Prop :=
  t.wptr.toNat = (s.wptr.toNat + xs.length) % 32768 ∧ t.wfill.toNat = min (s.wfill.toNat + xs.length) 32768 ∧
    (∀ k, k < xs.length → xs.length ≤ k + 32768 →
      t.win.read ((s.wptr.toNat + k) % 32768) = xs.getD k 0) ∧
    (∀ a, (∀ k, k < xs.length → a ≠ (s.wptr.toNat + k) % 32768) → t.win.read a = s.win.read a)

/-- The end of a block (44_deflate_decoder.md R213, R218): `bfinal` is tested. -/
def afterBlock (s : State) : State :=
  if s.bfinal = 1#1 then
    if s.zlib then { s with micro := .zlibTrailer } else { s with status := 0x06#8 }
  else { s with micro := .blockHeader }

/-! ### DEFLATE streams (30_encoding.md R96 to R104, R109, R117) -/

/-- A literal or a match as it stands in a stream. A match is length symbol `257 + i` with extra field `e`, then distance symbol
`j` with extra field `f`: every encoding of a length and a distance, the redundant ones of R109 among them. -/
inductive Token
  | literal (x : Byte)
  | copy (i e j f : Nat)
deriving DecidableEq, Repr

/-- The fields lie in their ranges (R104). -/
def Token.ok : Token → Bool
  | .literal _ => true
  | .copy i e j f => decide (i ≤ 28 ∧ e < 2 ^ Rom.lenExtra i ∧ j ≤ 29 ∧ f < 2 ^ Rom.distExtra j)

/-- The stream bits of a token (R104). -/
def Token.bits : Token → List Bool
  | .literal x => litLenBits x.toNat
  | .copy i e j f =>
    litLenBits (257 + i) ++ lsbBits (Rom.lenExtra i) e ++ msbBits 5 j ++ lsbBits (Rom.distExtra j) f

/-- `n` bytes copied from distance `d`, byte by byte: the copy may read bytes it has just written (R75). -/
def copyOut : Nat → Nat → List Byte → List Byte
  | 0, _, out => out
  | n + 1, d, out => copyOut n d (out ++ [out.getD (out.length - d) 0])

/-- The output after a token; none where a match reaches farther back than the output (44_deflate_decoder.md R221). -/
def Token.expand (out : List Byte) : Token → Option (List Byte)
  | .literal x => some (out ++ [x])
  | .copy i e j f =>
    if out.length < Rom.distBase j + f then none else some (copyOut (Rom.lenBase i + e) (Rom.distBase j + f) out)

/-- A block as it stands in a stream. Padding and NLEN may hold anything (R100, R108). -/
inductive Block
  | stored (pad : List Bool) (nlen : Nat) (data : List Byte)
  | fixed (tokens : List Token)
deriving DecidableEq, Repr

/-- The stream bits of a block (R98, R100, R101). -/
def Block.bits (final : Bool) : Block → List Bool
  | .stored pad nlen data =>
    [final, false, false] ++ pad ++ lsbBits 16 data.length ++ lsbBits 16 nlen ++ bytesBits data
  | .fixed tokens => [final, true, false] ++ tokens.flatMap Token.bits ++ litLenBits 256

/-- A block whose header starts at stream bit `pos` is well formed: the padding ends on a byte boundary (R100). -/
def Block.ok (pos : Nat) : Block → Bool
  | .stored pad _ data => decide (pad.length ≤ 7 ∧ (pos + 3 + pad.length) % 8 = 0 ∧ data.length ≤ 65535)
  | .fixed tokens => tokens.all Token.ok

/-- The output after a block. -/
def Block.expand (out : List Byte) : Block → Option (List Byte)
  | .stored _ _ data => some (out ++ data)
  | .fixed tokens => tokens.foldlM Token.expand out

/-- The bits of a stream: BFINAL is 1 on the last block and 0 on every other (R98). -/
def streamBits : List Block → List Bool
  | [] => []
  | [b] => b.bits true
  | b :: bs => b.bits false ++ streamBits bs

/-- Every block of a stream is well formed where it stands. -/
def streamOk : Nat → List Block → Bool
  | _, [] => true
  | pos, b :: bs => b.ok pos && streamOk (pos + (b.bits false).length) bs

/-- What a stream decodes to, after the output `out`. -/
def expand (out : List Byte) (bs : List Block) : Option (List Byte) := bs.foldlM Block.expand out

/-! ### Matches (42_matcher.md) and stored blocks (43_deflate_encoder.md) -/

/-- The `L` bytes at position `p` also stand `d` bytes before it (R171); the copy may overlap itself. -/
def matchAt (input : List Byte) (p d L : Nat) : Prop :=
  L ≤ 258 ∧ p + L ≤ input.length ∧ ∀ k, k < L → input[p - d + k]? = input[p + k]?

/-- `(L, d)` is the longest match of at least 3 bytes at `p`, and no smaller distance has one as long (R170, R173, R176). -/
def bestAt (input : List Byte) (p d L : Nat) : Prop :=
  3 ≤ L ∧ 1 ≤ d ∧ d ≤ min p 32768 ∧ matchAt input p d L ∧
    (∀ d' L', 1 ≤ d' → d' ≤ min p 32768 → matchAt input p d' L' → L' ≤ L) ∧
    ∀ d', 1 ≤ d' → d' < d → ¬ matchAt input p d' L

/-- No candidate at `p` matches 3 bytes (R174). -/
def noMatchAt (input : List Byte) (p : Nat) : Prop :=
  ∀ d L, 1 ≤ d → d ≤ min p 32768 → matchAt input p d L → L < 3

/-- A symbol of the encoder (00_scope.md R18). -/
inductive Symbol
  | literal (x : Byte)
  | pair (length distance : Nat)
deriving DecidableEq, Repr

/-- The bits of a symbol, with the symbols `LenSym` and `DistSym` select (43_deflate_encoder.md R191, R192). -/
def Symbol.bits : Symbol → List Bool
  | .literal x => litLenBits x.toNat
  | .pair len dist =>
    litLenBits (257 + lenSym len) ++ lsbBits (Rom.lenExtra (lenSym len)) (len - Rom.lenBase (lenSym len)) ++
      msbBits 5 (distSym dist) ++ lsbBits (Rom.distExtra (distSym dist)) (dist - Rom.distBase (distSym dist))

/-- The symbols are the greedy parse of the input from position `p` to its end (R189, R190). -/
def parses (input : List Byte) : Nat → List Symbol → Prop
  | p, [] => p = input.length
  | p, .literal x :: rest => input[p]? = some x ∧ noMatchAt input p ∧ parses input (p + 1) rest
  | p, .pair len dist :: rest => bestAt input p dist len ∧ parses input (p + len) rest

/-- One stored block (R188): its header byte, LEN, NLEN and the data. -/
def storedBlockBytes (final : Bool) (data : List Byte) : List Byte :=
  [if final then 0x01#8 else 0x00#8, BitVec.ofNat 8 data.length, BitVec.ofNat 8 (data.length / 256),
    ~~~ BitVec.ofNat 8 data.length, ~~~ BitVec.ofNat 8 (data.length / 256)] ++ data

/-- The stored blocks of an input, 65535 bytes each but for the last, at most `fuel + 1` of them (R187). -/
def storedBlocks : Nat → List Byte → List Byte
  | 0, data => storedBlockBytes true data
  | fuel + 1, data =>
    if data.length ≤ 65535 then storedBlockBytes true data
    else storedBlockBytes false (data.take 65535) ++ storedBlocks fuel (data.drop 65535)

/-- The level 0 stream of an input (R187). -/
def storedStream (data : List Byte) : List Byte := storedBlocks data.length data

/-! ### Checksum (46_adler32.md R266) -/

/-- `n*x_1 + (n-1)*x_2 + ... + 1*x_n`. -/
def weightedSum : List Byte → Nat
  | [] => 0
  | x :: xs => (xs.length + 1) * x.toNat + weightedSum xs

/-- `a` of R266. -/
def adlerA (xs : List Byte) : Nat := (1 + (xs.map BitVec.toNat).sum) % 65521

/-- `b` of R266. -/
def adlerB (xs : List Byte) : Nat := (xs.length + weightedSum xs) % 65521

/-- The checksum of a byte sequence: `b` is the high 16 bits and `a` the low 16 bits (R263). -/
def adler (xs : List Byte) : BitVec 32 := BitVec.ofNat 32 (adlerB xs * 65536 + adlerA xs)

/-- The four bytes of a 32-bit value, most significant first (45_zlib.md R243). -/
def bigEndian (v : BitVec 32) : List Byte :=
  [BitVec.ofNat 8 (v.toNat / 16777216), BitVec.ofNat 8 (v.toNat / 65536), BitVec.ofNat 8 (v.toNat / 256),
    BitVec.ofNat 8 v.toNat]

/-- The header test (45_zlib.md R244). -/
def headerOk (cmf flg : Byte) : Bool :=
  decide (cmf &&& 0x0F#8 = 8#8 ∧ (cmf.toNat * 256 + flg.toNat) % 31 = 0 ∧ flg &&& 0x20#8 = 0#8)

/-! ### The channel-safe form (30_encoding.md R114, 47_channel_escaper.md) -/

/-- The channel-safe form of a byte sequence (R271). -/
def escape : List Byte → List Byte
  | [] => []
  | x :: xs =>
    (if x = 0x00#8 then [0x01#8, 0x01#8] else if x = 0x01#8 then [0x01#8, 0x02#8]
      else if x = 0xFF#8 then [0x01#8, 0x03#8] else [x]) ++ escape xs

/-- The inverse (R272); none where an escape byte is last or has an unrecognised follower. -/
def unescape : List Byte → Option (List Byte)
  | [] => some []
  | x :: rest =>
    if x ≠ 0x01#8 then (unescape rest).map (x :: ·)
    else
      match rest with
      | [] => none
      | f :: rest' =>
        if f = 0x01#8 then (unescape rest').map (0x00#8 :: ·)
        else if f = 0x02#8 then (unescape rest').map (0x01#8 :: ·)
        else if f = 0x03#8 then (unescape rest').map (0xFF#8 :: ·)
        else none

/-! ### The print-safe form (48_base64.md) -/

/-- The alphabet as a string (R281). -/
def alphabet : List Byte :=
  "ABCDEFGHIJKLMNOPQRSTUVWXYZabcdefghijklmnopqrstuvwxyz0123456789+/".toList.map fun c => BitVec.ofNat 8 c.toNat

/-- The character of an index. -/
def charOf (k : Nat) : Byte := alphabet.getD k 0

/-- The index of a character. -/
def indexOf (c : Byte) : Option Nat := alphabet.findIdx? fun x => x == c

/-- The whitespace bytes (R284). -/
def isSpace (c : Byte) : Bool := [0x09#8, 0x0A#8, 0x0B#8, 0x0C#8, 0x0D#8, 0x20#8].contains c

/-- The text of a byte sequence (R282, R283). -/
def base64 : List Byte → List Byte
  | b0 :: b1 :: b2 :: rest =>
    let g := b0.toNat * 65536 + b1.toNat * 256 + b2.toNat
    [charOf (g / 262144), charOf (g / 4096 % 64), charOf (g / 64 % 64), charOf (g % 64)] ++ base64 rest
  | [b0, b1] =>
    let g := b0.toNat * 65536 + b1.toNat * 256
    [charOf (g / 262144), charOf (g / 4096 % 64), charOf (g / 64 % 64), 0x3D#8]
  | [b0] =>
    let g := b0.toNat * 65536
    [charOf (g / 262144), charOf (g / 4096 % 64), 0x3D#8, 0x3D#8]
  | [] => []

/-- The text without its whitespace: `s` of R285. -/
def stripped (text : List Byte) : List Byte := text.filter fun c => !isSpace c

/-- The number of consecutive padding characters at the end: `p` of R285. -/
def padding (s : List Byte) : Nat := (s.reverse.takeWhile fun c => c == 0x3D#8).length

/-- The bytes of the indices of the body (R285). -/
def groupBytes : List Nat → List Byte
  | k0 :: k1 :: k2 :: k3 :: rest =>
    let g := k0 * 262144 + k1 * 4096 + k2 * 64 + k3
    [BitVec.ofNat 8 (g / 65536), BitVec.ofNat 8 (g / 256), BitVec.ofNat 8 g] ++ groupBytes rest
  | [k0, k1, k2] =>
    let g := k0 * 262144 + k1 * 4096 + k2 * 64
    [BitVec.ofNat 8 (g / 65536), BitVec.ofNat 8 (g / 256)]
  | [k0, k1] =>
    let g := k0 * 262144 + k1 * 4096
    [BitVec.ofNat 8 (g / 65536)]
  | _ => []

/-- The last value R285 gives `grp`: the last group of the body, full or short; 0, as START leaves it, where the body is empty. -/
def lastGrp : List Nat → Nat
  | [k0, k1, k2, k3] => k0 * 262144 + k1 * 4096 + k2 * 64 + k3
  | _ :: _ :: _ :: _ :: rest => lastGrp rest
  | [k0, k1, k2] => k0 * 262144 + k1 * 4096 + k2 * 64
  | [k0, k1] => k0 * 262144 + k1 * 4096
  | _ => 0

/-- The indices of the body of a text that R285 accepts: strip, count the padding, check. -/
def bodyIndices (text : List Byte) : Option (List Nat) :=
  let s := stripped text
  let p := padding s
  if 2 < p then none
  else
    match (s.take (s.length - p)).mapM indexOf with
    | none => none
    | some ks => if ks.length % 4 = 1 ∨ (0 < p ∧ (ks.length + p) % 4 ≠ 0) then none else some ks

/-- `DecodeForPrint` as R285 writes it: the checks, then the groups. -/
def unbase64 (text : List Byte) : Option (List Byte) := (bodyIndices text).map groupBytes

/-! ### The bit stream (40_bitstream.md) -/

/-- Every bit written so far: those in `OUT`, then the pending ones (10_state.md R30). -/
def writtenBits (s : State) : List Bool := bytesBits s.output ++ lsbBits s.wcnt.toNat s.wacc.toNat

/-- Bits `wcnt` and above of `wacc` are 0 (10_state.md R30). -/
def pendingOk (s : State) : Prop := s.wacc.toNat < 2 ^ s.wcnt.toNat

/-- The low `len` bits of `code`, in reverse order (R133). -/
def rev : Nat → Nat → Nat
  | _, 0 => 0
  | code, len + 1 => (code >>> len) % 2 + 2 * rev code len

/-- `ReadBits` for each width in turn. -/
def readAll : List Nat → State → Except ErrorKind (List Nat × State)
  | [], s => .ok ([], s)
  | n :: ns, s =>
    match readBits n s with
    | .error k => .error k
    | .ok (v, s') =>
      match readAll ns s' with
      | .error k => .error k
      | .ok (vs, s'') => .ok (v :: vs, s'')

/-- What a sequence of reads answers: a value and the state after it, or the failure and the state the reads before it left. -/
abbrev Reads (α : Type) := Except (ErrorKind × State) (α × State)

/-- `ReadBits(n)` inside a sequence of reads: a failing one consumes nothing (R136). -/
def readField (n : Nat) (s : State) : Reads Nat :=
  match readBits n s with
  | .error k => .error (k, s)
  | .ok r => .ok r

/-- `len` calls of `ReadBits(1)` folded as `code <- (code << 1) | bit` (R137). -/
def readCode : Nat → Nat → State → Reads Nat
  | 0, code, s => .ok (code, s)
  | len + 1, code, s =>
    match readField 1 s with
    | .error e => .error e
    | .ok (b, s') => readCode len (code * 2 + b) s'

/-- The cursor of a bit reader is in range (10_state.md R31). -/
def cursorOk (s : State) : Prop := s.rpos ≤ s.rend ∧ (s.rpos = s.rend → s.rbit = 0#3)

/-- A reader at the beginning of the bytes in `OUT` of `t`. -/
def readsOutputOf (t r : State) : Prop :=
  r.inBuf = t.outBuf ∧ r.rpos = 0 ∧ r.rbit = 0#3 ∧ r.rend = t.outLen

/-! ### Reading the elements as the pseudocode does -/

/-- The block header reads of R213; BFINAL is latched when it has been read. -/
def readHeader (s : State) : Reads Instr :=
  match readField 1 s with
  | .error e => .error e
  | .ok (f, s1) =>
    match readField 2 s1 with
    | .error (k, s2) => .error (k, { s2 with bfinal := BitVec.ofNat 1 f })
    | .ok (t, s2) =>
      .ok (if t = 0 then .blockStored (BitVec.ofNat 1 f) else if t = 1 then .blockFixed (BitVec.ofNat 1 f)
        else if t = 2 then .blockDynamic (BitVec.ofNat 1 f) else .blockReserved (BitVec.ofNat 1 f), s2)

/-- `ReadBits(8)`, `n` times at most, as long as a whole byte remains. -/
def readBytes : Nat → State → List Byte × State
  | 0, s => ([], s)
  | n + 1, s =>
    match readBits 8 s with
    | .error _ => ([], s)
    | .ok (x, s') => (BitVec.ofNat 8 x :: (readBytes n s').1, (readBytes n s').2)

/-- The reads of `StoredBlock` (R215): align, LEN, NLEN, data; LEN is latched when it has been read. The padding the element records
is what `AlignByte` skipped. -/
def readStored (s : State) : Reads Instr :=
  match readField 16 (alignByte s) with
  | .error e => .error e
  | .ok (len, s1) =>
    match readField 16 s1 with
    | .error (k, s2) => .error (k, { s2 with blen := BitVec.ofNat 16 len })
    | .ok (nlen, s2) =>
      .ok (.storedBody ((readerBits s).take ((readerBits s).length - (readerBits (alignByte s)).length))
        (BitVec.ofNat 16 len) (BitVec.ofNat 16 nlen) (readBytes len s2).1, (readBytes len s2).2)

/-- The loop of `DecodeLitLen` (41_huffman_tables.md R158), after `len` bits; symbols 286 and 287 are returned, to be refused by
their element. -/
def readLitLenFrom : Nat → Nat → Nat → State → Reads Nat
  | 0, _, _, s => .error (.truncatedStream, s)
  | fuel + 1, len, code, s =>
    match readField 1 s with
    | .error e => .error e
    | .ok (bit, s1) =>
      let c := 2 * code + bit
      if len + 1 = 7 ∧ c ≤ 0x17 then .ok (256 + c, s1)
      else if len + 1 = 8 ∧ 0x30 ≤ c ∧ c ≤ 0xBF then .ok (c - 0x30, s1)
      else if len + 1 = 8 ∧ 0xC0 ≤ c ∧ c ≤ 0xC7 then .ok (280 + (c - 0xC0), s1)
      else if len + 1 = 9 then .ok (144 + (c - 0x190), s1)
      else readLitLenFrom fuel (len + 1) c s1

/-- A literal/length code, and the extra bits of a length (R158, R219); the symbol is latched when its code has been read (R216). -/
def readLitLen (s : State) : Reads Instr :=
  match readLitLenFrom 9 0 0 s with
  | .error e => .error e
  | .ok (sym, s1) =>
    if sym ≤ 143 then .ok (.literal0To143 (BitVec.ofNat 8 sym), s1)
    else if sym ≤ 255 then .ok (.literal144To255 (BitVec.ofNat 8 sym), s1)
    else if sym = 256 then .ok (.eob, s1)
    else if sym = 286 then .ok (.litlenReserved286, s1)
    else if sym = 287 then .ok (.litlenReserved287, s1)
    else
      match readField (Rom.lenExtra (sym - 257)) s1 with
      | .error (k, s2) => .error (k, { s2 with sym := BitVec.ofNat 9 sym })
      | .ok (e, s2) => .ok (lengthInstr (sym - 257) e, s2)

/-- A distance code and its extra bits (R159, R219). -/
def readDistance (s : State) : Reads Instr :=
  match readCode 5 0 s with
  | .error e => .error e
  | .ok (j, s1) =>
    if 30 ≤ j then .ok (distanceInstr j 0, s1)
    else
      match readField (Rom.distExtra j) s1 with
      | .error e => .error e
      | .ok (f, s2) => .ok (distanceInstr j f, s2)

/-- What `fetch` answers for the outcome of the reads. -/
def fetched : Reads Instr → Fetched
  | .error (k, s) => .failed k s
  | .ok (i, s) => .element i s

/-! ### Runs -/

/-- `n` steps of the machine, every state before the last one running. -/
def reaches : Nat → State → State → Prop
  | 0, s, t => s = t
  | n + 1, s, t => s.busy = true ∧ ∃ u, step s = .next u ∧ reaches n u t

/-- What the host gives a command besides `CMD` (49_host_interface.md R306). -/
def sameArguments (s s' : State) : Prop := s.input = s'.input ∧ s.inLen = s'.inLen ∧ s.maxOut = s'.maxOut

end Sys2Proof.Ref

/-- Reset puts every host register and phase at its stated value, from any state. Reset (70_reset_and_hazards.md R360, R361; 10_state.md R43). Nothing is said of what R43 leaves unspecified (log 4, log 5). -/
def Obligations.ResetGivesTheHostRegisterValues : Prop :=
  ∀ s r : State, (r = State.reset ∨ r = hostReset s) →
    r.cmd = 0#8 ∧ r.status = 0#8 ∧ r.busy = false ∧ r.done = false ∧ r.ok = false ∧ r.err = 0#4 ∧ r.phase = .idle ∧
      r.inLen = 0 ∧ r.outLen = 0 ∧ r.maxOut = 0 ∧ r.result = 0#32 ∧
      ∃ t, step r = .next t ∧ t.status = 0xF2#8 ∧ t.outLen = 0 ∧ t.result = 0#32

/-- A step runs the instruction its command word or stream bits decode to. The host's START is a step (00_scope.md R16, 49_host_interface.md R301, R302). The steps of a running command are the micro-phases R28 allows an implementation: the model's choice (log 1, log 2). -/
def Obligations.StepRunsTheDecodedInstruction : Prop :=
  ∀ s : State,
    (s.busy = false → step s = exec (decodeCommand s.cmd) s) ∧
    (s.busy = true → ∀ i rest, decodeStream s.micro s.rbit.toNat (unreadBits s) = .ok (i, rest) →
      step s = exec i (moveCursor ((unreadBits s).length - rest.length) s)) ∧
    (∀ n, ((s.micro = .blockHeader ∨ s.micro = .storedBody ∨ s.micro = .litLen ∨ s.micro = .distance) →
        moveCursor n s = { s with rpos := s.rpos + (s.rbit.toNat + n) / 8, rbit := BitVec.ofNat 3 (s.rbit.toNat + n) }) ∧
      ((s.micro = .escape ∨ s.micro = .print ∨ ∃ p, s.micro = .printPad p) →
        moveCursor n s = { s with ipos := s.ipos + n / 8 }) ∧
      ((s.micro = .zlibCmf ∨ s.micro = .zlibFlg ∨ s.micro = .zlibPayload ∨ s.micro = .zlibTrailer) →
        moveCursor n s = s)) ∧
    (s.busy = true → decodeStream s.micro s.rbit.toNat (unreadBits s) = .error .truncated →
      ∃ u t, fetch s = .failed .truncatedStream u ∧ step s = .next t ∧ Ref.failedAs 0x12#8 u t ∧
        u = { s with rpos := u.rpos, rbit := u.rbit, bfinal := u.bfinal, sym := u.sym, blen := u.blen } ∧
        (s.micro ≠ .blockHeader → s.micro ≠ .storedBody → s.micro ≠ .litLen → s.micro ≠ .distance → u = s)) ∧
    (s.busy = true → s.micro = .escape → decodeStream s.micro s.rbit.toNat (unreadBits s) = .error .endOfInput →
      step s = .next { s with status := 0x06#8 })

/-- After an element the unread bits are exactly the bits that follow it. The cursors (10_state.md R38): each micro-operation advances the cursor by exactly the bits or bytes it consumes. -/
def Obligations.TheCursorMovesPastTheElement : Prop :=
  ∀ (s : State) (i : Instr) (rest : List Bool), s.busy = true → s.cursorsOk = true →
    (s.micro ≠ .zlibCmf ∧ s.micro ≠ .zlibFlg ∧ s.micro ≠ .zlibPayload ∧ s.micro ≠ .zlibTrailer) →
    decodeStream s.micro s.rbit.toNat (unreadBits s) = .ok (i, rest) →
    ∃ t, fetch s = .element i t ∧ unreadBits t = rest ∧ t.cursorsOk = true ∧ rest.length < (unreadBits s).length ∧
      s.rpos ≤ t.rpos ∧ s.ipos ≤ t.ipos ∧ t = { s with rpos := t.rpos, rbit := t.rbit, ipos := t.ipos }

/-- START clears the previous result and sets all per-command state. Steps 1 and 2 of `Start()` (49_host_interface.md R301). Every statement about a command is in terms of `start s`. -/
def Obligations.StartInitialisesTheCommand : Prop :=
  ∀ s : State,
    start s = { s with
      status := 0x01#8, outLen := 0, outBuf := [], result := 0#32, ipos := 0, wacc := 0#8, wcnt := 0#3, rbase := 0,
      rend := s.inLen, rpos := 0, rbit := 0#3, a := 1#16, b := 0#16, wptr := 0#15, wfill := 0#16, grp := 0#24,
      gcnt := 0#3 } ∧
    (start s).phase = .run ∧ (start s).busy = true ∧ (start s).done = false ∧ (start s).ok = false ∧ (start s).err = 0#4

/-- A START of an illegal CMD reports IllegalCommand, and no legal one does. 49_host_interface.md R304. A model built without the optional components is not this one: all nine commands are there. -/
def Obligations.IllegalCommandsAreRefused : Prop :=
  (∀ s : State, s.busy = false →
    let op := s.cmd.toNat % 16
    let level := s.cmd.toNat / 16
    (¬ (1 ≤ op ∧ op ≤ 9 ∧ (op = 1 ∨ op = 3 → level ≤ 9)) →
      step s = .next { start s with status := 0xF2#8 } ∧ ({ start s with status := 0xF2#8 } : State).outLen = 0 ∧
        ({ start s with status := 0xF2#8 } : State).result = 0#32) ∧
    ((1 ≤ op ∧ op ≤ 9 ∧ (op = 1 ∨ op = 3 → level ≤ 9)) → ∀ t, step s = .next t → t.err ≠ 0xF#4)) ∧
  (∀ (s : State) (level : BitVec 4) (low zlib : BitVec 1) (low2 : BitVec 2),
    exec (.illegalOp0 level) s = .next { start s with status := 0xF2#8 } ∧
    exec (.illegalOpAB low level) s = .next { start s with status := 0xF2#8 } ∧
    exec (.illegalOpCF low2 level) s = .next { start s with status := 0xF2#8 } ∧
    exec (.illegalLevel1011 zlib low) s = .next { start s with status := 0xF2#8 } ∧
    exec (.illegalLevel1215 zlib low2) s = .next { start s with status := 0xF2#8 })

/-- Raising an error kind writes its code to STATUS and nothing else but the open output. The trap entry (60_exceptions.md R330, codes R320). -/
def Obligations.RaiseEndsTheCommand : Prop :=
  ∀ s : State,
    Ref.failedAs 0x12#8 s (raise .truncatedStream s) ∧ Ref.failedAs 0x22#8 s (raise .unsupportedBlockType s) ∧
    Ref.failedAs 0x32#8 s (raise .invalidBackReference s) ∧ Ref.failedAs 0x42#8 s (raise .invalidHeader s) ∧
    raise .checksumMismatch s = { s with status := 0x52#8 } ∧ Ref.failedAs 0x62#8 s (raise .invalidEscape s) ∧
    Ref.failedAs 0x72#8 s (raise .invalidBase64 s) ∧ Ref.failedAs 0x82#8 s (raise .invalidSymbol s) ∧
    Ref.failedAs 0x92#8 s (raise .outputLimitExceeded s) ∧ raise .illegalCommand s = { s with status := 0xF2#8 } ∧
    ∀ k, (raise k s).phase = .done ∧ (raise k s).busy = false ∧ (raise k s).done = true ∧ (raise k s).ok = false ∧
      (raise k s).err = k.code ∧ (raise k s).err ≠ 0#4

/-- The host writes and reads only between commands, and reads results only when done. The host's moves (70_reset_and_hazards.md R365, R371, R372; 49_host_interface.md R305; log 7). That a loaded input leaves the bytes beyond it is the model's choice (log 19). -/
def Obligations.HostMovesBetweenCommands : Prop :=
  ∀ (s : State) (w : BitVec 8) (n i : Nat) (x : Byte) (xs : List Byte),
    (s.busy = false →
      hostWriteCmd w s = some { s with cmd := w } ∧ hostWriteInLen n s = some { s with inLen := n } ∧
      hostWriteMaxOut n s = some { s with maxOut := n } ∧
      hostWriteIn i x s = some { s with inBuf := s.inBuf.write i x } ∧
      hostReadCmd s = some s.cmd ∧ hostReadInLen s = some s.inLen ∧ hostReadMaxOut s = some s.maxOut ∧
      hostReadIn i s = some (s.inBuf.read i) ∧
      ∃ t, hostLoad xs s = some t ∧ (s.inBuf.wf = true → t.input = xs) ∧
        (∀ a, xs.length ≤ a → t.inBuf.read a = s.inBuf.read a) ∧ t = { s with inBuf := t.inBuf, inLen := xs.length }) ∧
    (s.busy = true →
      hostWriteCmd w s = none ∧ hostWriteInLen n s = none ∧ hostWriteMaxOut n s = none ∧ hostWriteIn i x s = none ∧
      hostLoad xs s = none ∧ hostReadCmd s = none ∧ hostReadInLen s = none ∧ hostReadMaxOut s = none ∧
      hostReadIn i s = none) ∧
    (s.done = true →
      hostReadOutLen s = some s.outLen ∧ hostReadResult s = some s.result ∧
      (i < s.outLen → hostReadOut i s = some (s.outBuf.read i)) ∧ (s.outLen ≤ i → hostReadOut i s = none)) ∧
    (s.done = false → hostReadOutLen s = none ∧ hostReadResult s = none ∧ hostReadOut i s = none) ∧
    hostReadStatus s = s.status

/-- Words written out from the spec's encodings decode to their instructions. A sanity check of the decoder against words written out by hand (95_test_vectors.md V10 to V18, V80, V100 to V104). -/
def Obligations.SpecWordsDecode : Prop :=
  decodeCommand 0x01#8 = .compress 0#4 ∧ decodeCommand 0x61#8 = .compress 6#4 ∧
  decodeCommand 0xA1#8 = .illegalLevel1011 0#1 0#1 ∧ decodeCommand 0xF2#8 = .decompress 15#4 ∧
  decodeCommand 0x0C#8 = .illegalOpCF 0#2 0#4 ∧ decodeCommand 0x00#8 = .illegalOp0 0#4 ∧
  decodeStream .blockHeader 0 [true, false, false] = .ok (.blockStored 1#1, []) ∧
  decodeStream .blockHeader 0 [true, true, false] = .ok (.blockFixed 1#1, []) ∧
  decodeStream .blockHeader 0 [false, false, true] = .ok (.blockDynamic 0#1, []) ∧
  decodeStream .litLen 0 [true, false, false, true, false, false, false, true] = .ok (.literal0To143 0x61#8, []) ∧
  decodeStream .litLen 0 [true, true, true, true, true, true, true, true, true] = .ok (.literal144To255 0xFF#8, []) ∧
  decodeStream .litLen 0 [false, false, false, false, false, false, false] = .ok (.eob, []) ∧
  decodeStream .litLen 0 [false, false, false, true, false, false, true, true] = .ok (.length265 1#1, []) ∧
  decodeStream .distance 0
    [true, true, true, false, true, true, true, true, true, true, true, true, true, true, true, true, true, true] =
      .ok (.distance29 8191#13, []) ∧
  decodeStream .escape 0
    [true, false, false, false, false, false, false, false, true, true, false, false, false, false, false, false] =
      .ok (.escFF, []) ∧
  decodeStream .print 0 [true, true, false, true, false, true, false, false] = .ok (.b64Plus, []) ∧
  decodeStream .zlibTrailer 0 (List.replicate 24 false ++ [true] ++ List.replicate 7 false) =
    .ok (.zlibAdler32 0x00000001#32, [])

/-- Decoding the encoding of every well-formed instruction gives it back. Decode and encode agree on every constructor of `Instr`, every operand value its encoding admits (30_encoding.md). -/
def Obligations.DecodeOfEncodeIsTheInstruction : Prop :=
  (∀ i : Instr, i.wf = true → i.ctx = none →
    ∃ w, takeLsb 8 (encode i) = some (w, []) ∧ decodeCommand (BitVec.ofNat 8 w) = i) ∧
  (∀ (i : Instr) (c : StreamCtx) (pos : Nat) (rest : List Bool), i.wf = true → i.ctx = some c →
    (∀ pad len nlen data, i = .storedBody pad len nlen data → pad.length = padBits pos) →
    (i = .escInvalid none → rest = []) →
    decodeStream c pos (encode i ++ rest) = .ok (i, rest))

/-- What the decoder reads is exactly the encoding of what it answers. The other direction: no two encodings of one stream decode to one instruction with one rest, and no bit is dropped. -/
def Obligations.DecodedBitsAreTheEncoding : Prop :=
  (∀ w : BitVec 8, encode (decodeCommand w) = lsbBits 8 w.toNat ∧ (decodeCommand w).wf = true) ∧
  (∀ (c : StreamCtx) (pos : Nat) (bits rest : List Bool) (i : Instr), decodeStream c pos bits = .ok (i, rest) →
    bits = encode i ++ rest ∧
    (i.ctx = some c ∨ ∃ p, c = .printPad p ∧ i.ctx = some .print) ∧
    (c ≠ .storedBody → i.wf = true) ∧
    (∀ pad len nlen data, i = .storedBody pad len nlen data →
      pad.length = padBits pos ∧ data.length ≤ len.toNat ∧ (data.length < len.toNat → rest.length < 8)))

/-- No literal/length code begins another, and every nine bits begin with a code. 30_encoding.md R106, over the codes of R152. -/
def Obligations.LitLenCodesAreUnambiguous : Prop :=
  (∀ s s' : Nat, s ≤ 287 → s' ≤ 287 → s ≠ s' → ¬ (litLenBits s <+: litLenBits s')) ∧
  (∀ bits : List Bool, 9 ≤ bits.length →
    ∃ sym rest, decodeLitLen bits = some (sym, rest) ∧ sym ≤ 287 ∧ bits = litLenBits sym ++ rest ∧
      (litLenBits sym).length ≤ 9)

/-- The literal/length codes are the canonical codes of their lengths. 41_huffman_tables.md R153 (and the table of R152). -/
def Obligations.LitLenCodesAreCanonical : Prop :=
  (∀ s : Fin 288, (Rom.litLenCode s).2 = if s.val ≤ 143 then 8 else if s.val ≤ 255 then 9 else if s.val ≤ 279 then 7 else 8) ∧
  ((List.range 288).filter fun s => (Rom.litLenCode s).2 == 7).length = 24 ∧
  ((List.range 288).filter fun s => (Rom.litLenCode s).2 == 8).length = 152 ∧
  ((List.range 288).filter fun s => (Rom.litLenCode s).2 == 9).length = 112 ∧
  (((List.range 288).filter fun s => (Rom.litLenCode s).2 == 7).map fun s => (Rom.litLenCode s).1) = List.range' 0 24 ∧
  (((List.range 288).filter fun s => (Rom.litLenCode s).2 == 8).map fun s => (Rom.litLenCode s).1) =
    List.range' ((0 + 24) * 2) 152 ∧
  (((List.range 288).filter fun s => (Rom.litLenCode s).2 == 9).map fun s => (Rom.litLenCode s).1) =
    List.range' ((48 + 152) * 2) 112 ∧
  24 * 4 + 152 * 2 + 112 = 512

/-- LenSym and DistSym select the symbol whose range contains the value. 41_huffman_tables.md R160. -/
def Obligations.SymbolSelectionFindsTheRange : Prop :=
  lenSym 258 = 28 ∧
  (∀ L, 3 ≤ L → L ≤ 257 → lenSym L ≤ 27 ∧ Rom.lenBase (lenSym L) ≤ L ∧ ∀ i, i ≤ 27 → Rom.lenBase i ≤ L → i ≤ lenSym L) ∧
  (∀ L, 3 ≤ L → L ≤ 258 → Rom.lenBase (lenSym L) ≤ L ∧ L - Rom.lenBase (lenSym L) < 2 ^ Rom.lenExtra (lenSym L)) ∧
  (∀ D, 1 ≤ D → D ≤ 32768 → distSym D ≤ 29 ∧ Rom.distBase (distSym D) ≤ D ∧
    (∀ j, j ≤ 29 → Rom.distBase j ≤ D → j ≤ distSym D) ∧
    D - Rom.distBase (distSym D) < 2 ^ Rom.distExtra (distSym D)) ∧
  lenSym 3 = 0 ∧ lenSym 10 = 7 ∧ lenSym 11 = 8 ∧ lenSym 12 = 8 ∧ lenSym 225 = 26 ∧ lenSym 257 = 27 ∧
  distSym 1 = 0 ∧ distSym 4 = 3 ∧ distSym 5 = 4 ∧ distSym 6 = 4 ∧ distSym 32768 = 29 ∧
  Rom.lenExtra 28 = 0 ∧ Rom.litLenCode 285 = (0xC5, 8)

/-- WriteBits appends the low n bits of its value, least significant first. 40_bitstream.md R131; 20_memory.md R66, R67. The widths the machine uses are 0 to 16; the statement holds for every width. -/
def Obligations.WriteBitsAppendsTheLowBits : Prop :=
  ∀ (s : State) (value n : Nat), Ref.pendingOk s → s.outBuf.wf = true →
    let t := writeBits value n s
    Ref.writtenBits t = Ref.writtenBits s ++ lsbBits n value ∧ Ref.pendingOk t ∧
    t.outLen = s.outLen + (s.wcnt.toNat + n) / 8 ∧ t.wcnt.toNat = (s.wcnt.toNat + n) % 8 ∧
    (∀ a, a < s.outLen → t.outBuf.read a = s.outBuf.read a) ∧
    (∀ a, t.outLen ≤ a → t.outBuf.read a = s.outBuf.read a) ∧
    t = { s with outBuf := t.outBuf, outLen := t.outLen, wacc := t.wacc, wcnt := t.wcnt } ∧
    (n = 0 → t = s)

/-- Flush pads with zero bits to a byte boundary; WriteCode writes the top bit first. 40_bitstream.md R132 and R133. -/
def Obligations.FlushPadsAndWriteCodeReverses : Prop :=
  (∀ s : State, Ref.pendingOk s → s.outBuf.wf = true →
    (s.wcnt = 0#3 → flush s = s) ∧
    (s.wcnt ≠ 0#3 →
      flush s = { s with outBuf := s.outBuf.write s.outLen s.wacc, outLen := s.outLen + 1, wacc := 0#8, wcnt := 0#3 } ∧
      Ref.writtenBits (flush s) = Ref.writtenBits s ++ List.replicate (8 - s.wcnt.toNat) false ∧
      ∀ a, a ≠ s.outLen → (flush s).outBuf.read a = s.outBuf.read a) ∧
    flush (flush s) = flush s) ∧
  (∀ (s : State) (code len : Nat),
    writeCode code len s = writeBits (Ref.rev code len) len s ∧
    writeCode code len s = ((List.range len).map fun i => code.testBit (len - 1 - i)).foldl
      (fun t b => writeBits b.toNat 1 t) s)

/-- ReadBits takes the next n bits or fails consuming none; AlignByte goes to a byte boundary. 40_bitstream.md R136 and R135. -/
def Obligations.ReadBitsAndAlignByte : Prop :=
  ∀ (s : State) (n : Nat), Ref.cursorOk s →
    (bitsLeft s < n → readBits n s = .error .truncatedStream) ∧
    (n ≤ bitsLeft s → ∃ v t, readBits n s = .ok (v, t) ∧ v < 2 ^ n ∧
      (∀ k, k < n → v.testBit k = (s.inBuf.read (s.rpos + (s.rbit.toNat + k) / 8)).getLsbD ((s.rbit.toNat + k) % 8)) ∧
      8 * t.rpos + t.rbit.toNat = 8 * s.rpos + s.rbit.toNat + n ∧ Ref.cursorOk t ∧
      (n = bitsLeft s → t.rpos = t.rend ∧ t.rbit = 0#3) ∧ (n = 0 → v = 0 ∧ t = s) ∧
      t = { s with rpos := t.rpos, rbit := t.rbit }) ∧
    (s.rbit = 0#3 → alignByte s = s) ∧
    (s.rbit ≠ 0#3 → alignByte s = { s with rbit := 0#3, rpos := s.rpos + 1 } ∧ s.rpos + 1 ≤ s.rend)

/-- The writer and the reader are inverse. 40_bitstream.md R137. -/
def Obligations.BitStreamLaws : Prop :=
  (∀ (s t : State) (n m x y : Nat), Ref.cursorOk s →
    ((∃ u, readBits n s = .ok (x, u) ∧ readBits m u = .ok (y, t)) ↔
      (x < 2 ^ n ∧ readBits (n + m) s = .ok (x ||| (y <<< n), t)))) ∧
  (∀ (s r : State) (fields : List (Nat × Nat)), s.outBuf = [] → s.outLen = 0 → s.wacc = 0#8 → s.wcnt = 0#3 →
    Ref.readsOutputOf (flush (fields.foldl (fun t f => writeBits f.1 f.2 t) s)) r →
    ∃ u, Ref.readAll (fields.map Prod.snd) r = .ok (fields.map fun f => f.1 % 2 ^ f.2, u) ∧ bitsLeft u ≤ 7 ∧
      readerBits u = List.replicate (bitsLeft u) false) ∧
  (∀ (s r : State) (code len : Nat), s.outBuf = [] → s.outLen = 0 → s.wacc = 0#8 → s.wcnt = 0#3 →
    Ref.readsOutputOf (flush (writeCode code len s)) r → ∃ u, Ref.readCode len 0 r = .ok (code % 2 ^ len, u))

/-- Fetching a DEFLATE element is the sequence of ReadBits the pseudocode gives, cut ones too. The decoder of Decode.lean against the read order of 44_deflate_decoder.md and 41_huffman_tables.md: where a read fails, the bits and latches of the reads before it stay (R158). -/
def Obligations.ElementsAreReadAsThePseudocodeReads : Prop :=
  ∀ s : State, s.busy = true → s.cursorsOk = true →
    (s.micro = .blockHeader → fetch s = Ref.fetched (Ref.readHeader s)) ∧
    (s.micro = .storedBody → fetch s = Ref.fetched (Ref.readStored s)) ∧
    (s.micro = .litLen → fetch s = Ref.fetched (Ref.readLitLen s)) ∧
    (s.micro = .distance → fetch s = Ref.fetched (Ref.readDistance s))

/-- A block header latches BFINAL and BTYPE; types 2 and 3 raise UnsupportedBlockType. 44_deflate_decoder.md R213. -/
def Obligations.BlockHeadersLatchAndDispatch : Prop :=
  ∀ (f : BitVec 1) (s : State),
    exec (.blockStored f) s = .next { s with bfinal := f, btype := 0#2, micro := .storedBody } ∧
    exec (.blockFixed f) s = .next { s with bfinal := f, btype := 1#2, micro := .litLen } ∧
    (∃ t, exec (.blockDynamic f) s = .next t ∧ Ref.failedAs 0x22#8 { s with bfinal := f, btype := 2#2 } t) ∧
    (∃ t, exec (.blockReserved f) s = .next t ∧ Ref.failedAs 0x22#8 { s with bfinal := f, btype := 3#2 } t)

/-- A stored body puts its LEN bytes, then the block ends; short data and the bound fail. 44_deflate_decoder.md R215; the end of the block is R213. That the bytes of a cut body are put before the failure is R215's; what OUT then holds is open (R332). The bytes behind the one that meets the bound are not read: the cursor, which the fetch moved past the whole element, goes back over them. -/
def Obligations.StoredBodyCopiesItsBytes : Prop :=
  ∀ (pad : List Bool) (len nlen : BitVec 16) (data : List Byte) (s : State), s.memoriesOk = true →
    s.wfill.toNat ≤ 32768 → data.length ≤ len.toNat →
    ((s.maxOut = 0 ∨ s.outLen + data.length ≤ s.maxOut) → data.length = len.toNat →
      ∃ u, exec (.storedBody pad len nlen data) s = .next (Ref.afterBlock u) ∧
        Ref.producedFrom { s with blen := len } u ∧ Ref.outputGrewBy data s u ∧ Ref.windowGrewBy data s u) ∧
    ((s.maxOut = 0 ∨ s.outLen + data.length ≤ s.maxOut) → data.length < len.toNat →
      ∃ u t, exec (.storedBody pad len nlen data) s = .next t ∧ Ref.producedFrom { s with blen := len } u ∧
        Ref.windowGrewBy data s u ∧ Ref.failedAs 0x12#8 u t) ∧
    (s.maxOut ≠ 0 → s.maxOut < s.outLen + data.length → 0 < data.length →
      ∃ u t, exec (.storedBody pad len nlen data) s = .next t ∧
        Ref.producedFrom { s with
          blen := len, rpos := s.rpos - (data.drop (s.maxOut - s.outLen + 1)).length } u ∧
        Ref.windowGrewBy (data.take (s.maxOut - s.outLen)) s u ∧ Ref.failedAs 0x92#8 u t)

/-- A literal appends its byte to OUT and to the window, or meets the output bound. 44_deflate_decoder.md R217, R212; 20_memory.md R63, R64. -/
def Obligations.LiteralsPutTheirByte : Prop :=
  ∀ (x : Byte) (s : State),
    (∀ i, (i = Instr.literal0To143 x ∧ x.toNat ≤ 143) ∨ (i = Instr.literal144To255 x ∧ 144 ≤ x.toNat) →
      ((s.maxOut = 0 ∨ s.outLen < s.maxOut) →
        ∃ t, exec i s = .next t ∧
          t = { s with
            sym := BitVec.ofNat 9 x.toNat, micro := .litLen, outBuf := s.outBuf.write s.outLen x, outLen := s.outLen + 1,
            win := s.win.write s.wptr.toNat x, wptr := s.wptr + 1#15,
            wfill := BitVec.ofNat 16 (min (s.wfill.toNat + 1) 32768) } ∧
          (s.memoriesOk = true → t.outBuf.read s.outLen = x ∧ t.win.read s.wptr.toNat = x) ∧
          (∀ a, a ≠ s.outLen → t.outBuf.read a = s.outBuf.read a) ∧
          (∀ a, a ≠ s.wptr.toNat → t.win.read a = s.win.read a)) ∧
      (s.maxOut ≠ 0 → s.maxOut ≤ s.outLen →
        ∃ t, exec i s = .next t ∧ Ref.failedAs 0x92#8 { s with sym := BitVec.ofNat 9 x.toNat, micro := .litLen } t))

/-- Symbol 256 ends the block by BFINAL; reserved symbols raise InvalidSymbol. 44_deflate_decoder.md R218, R213; 41_huffman_tables.md R158, R159. -/
def Obligations.EndOfBlockAndReservedSymbols : Prop :=
  ∀ s : State,
    (s.bfinal = 0#1 → exec .eob s = .next { s with sym := 256#9, micro := .blockHeader }) ∧
    (s.bfinal = 1#1 → s.zlib = false → exec .eob s = .next { s with sym := 256#9, status := 0x06#8 }) ∧
    (s.bfinal = 1#1 → s.zlib = true → exec .eob s = .next { s with sym := 256#9, micro := .zlibTrailer }) ∧
    ∀ i, i = Instr.litlenReserved286 ∨ i = Instr.litlenReserved287 ∨ i = Instr.distanceReserved30 ∨
        i = Instr.distanceReserved31 → ∃ t, exec i s = .next t ∧ Ref.failedAs 0x82#8 s t

/-- Each of the 29 length symbols latches its base length plus its extra field. 44_deflate_decoder.md R219 with the table of 41_huffman_tables.md R156 written out. -/
def Obligations.LengthElementsLatchTheLength : Prop :=
  (∀ s : State, exec .length257 s = .next { s with sym := 257#9, mlen := 3#9, micro := .distance }) ∧
  (∀ s : State, exec .length258 s = .next { s with sym := 258#9, mlen := 4#9, micro := .distance }) ∧
  (∀ s : State, exec .length259 s = .next { s with sym := 259#9, mlen := 5#9, micro := .distance }) ∧
  (∀ s : State, exec .length260 s = .next { s with sym := 260#9, mlen := 6#9, micro := .distance }) ∧
  (∀ s : State, exec .length261 s = .next { s with sym := 261#9, mlen := 7#9, micro := .distance }) ∧
  (∀ s : State, exec .length262 s = .next { s with sym := 262#9, mlen := 8#9, micro := .distance }) ∧
  (∀ s : State, exec .length263 s = .next { s with sym := 263#9, mlen := 9#9, micro := .distance }) ∧
  (∀ s : State, exec .length264 s = .next { s with sym := 264#9, mlen := 10#9, micro := .distance }) ∧
  (∀ (e : BitVec 1) (s : State), exec (.length265 e) s = .next { s with sym := 265#9, mlen := BitVec.ofNat 9 (11 + e.toNat), micro := .distance }) ∧
  (∀ (e : BitVec 1) (s : State), exec (.length266 e) s = .next { s with sym := 266#9, mlen := BitVec.ofNat 9 (13 + e.toNat), micro := .distance }) ∧
  (∀ (e : BitVec 1) (s : State), exec (.length267 e) s = .next { s with sym := 267#9, mlen := BitVec.ofNat 9 (15 + e.toNat), micro := .distance }) ∧
  (∀ (e : BitVec 1) (s : State), exec (.length268 e) s = .next { s with sym := 268#9, mlen := BitVec.ofNat 9 (17 + e.toNat), micro := .distance }) ∧
  (∀ (e : BitVec 2) (s : State), exec (.length269 e) s = .next { s with sym := 269#9, mlen := BitVec.ofNat 9 (19 + e.toNat), micro := .distance }) ∧
  (∀ (e : BitVec 2) (s : State), exec (.length270 e) s = .next { s with sym := 270#9, mlen := BitVec.ofNat 9 (23 + e.toNat), micro := .distance }) ∧
  (∀ (e : BitVec 2) (s : State), exec (.length271 e) s = .next { s with sym := 271#9, mlen := BitVec.ofNat 9 (27 + e.toNat), micro := .distance }) ∧
  (∀ (e : BitVec 2) (s : State), exec (.length272 e) s = .next { s with sym := 272#9, mlen := BitVec.ofNat 9 (31 + e.toNat), micro := .distance }) ∧
  (∀ (e : BitVec 3) (s : State), exec (.length273 e) s = .next { s with sym := 273#9, mlen := BitVec.ofNat 9 (35 + e.toNat), micro := .distance }) ∧
  (∀ (e : BitVec 3) (s : State), exec (.length274 e) s = .next { s with sym := 274#9, mlen := BitVec.ofNat 9 (43 + e.toNat), micro := .distance }) ∧
  (∀ (e : BitVec 3) (s : State), exec (.length275 e) s = .next { s with sym := 275#9, mlen := BitVec.ofNat 9 (51 + e.toNat), micro := .distance }) ∧
  (∀ (e : BitVec 3) (s : State), exec (.length276 e) s = .next { s with sym := 276#9, mlen := BitVec.ofNat 9 (59 + e.toNat), micro := .distance }) ∧
  (∀ (e : BitVec 4) (s : State), exec (.length277 e) s = .next { s with sym := 277#9, mlen := BitVec.ofNat 9 (67 + e.toNat), micro := .distance }) ∧
  (∀ (e : BitVec 4) (s : State), exec (.length278 e) s = .next { s with sym := 278#9, mlen := BitVec.ofNat 9 (83 + e.toNat), micro := .distance }) ∧
  (∀ (e : BitVec 4) (s : State), exec (.length279 e) s = .next { s with sym := 279#9, mlen := BitVec.ofNat 9 (99 + e.toNat), micro := .distance }) ∧
  (∀ (e : BitVec 4) (s : State), exec (.length280 e) s = .next { s with sym := 280#9, mlen := BitVec.ofNat 9 (115 + e.toNat), micro := .distance }) ∧
  (∀ (e : BitVec 5) (s : State), exec (.length281 e) s = .next { s with sym := 281#9, mlen := BitVec.ofNat 9 (131 + e.toNat), micro := .distance }) ∧
  (∀ (e : BitVec 5) (s : State), exec (.length282 e) s = .next { s with sym := 282#9, mlen := BitVec.ofNat 9 (163 + e.toNat), micro := .distance }) ∧
  (∀ (e : BitVec 5) (s : State), exec (.length283 e) s = .next { s with sym := 283#9, mlen := BitVec.ofNat 9 (195 + e.toNat), micro := .distance }) ∧
  (∀ (e : BitVec 5) (s : State), exec (.length284 e) s = .next { s with sym := 284#9, mlen := BitVec.ofNat 9 (227 + e.toNat), micro := .distance }) ∧
  (∀ s : State, exec .length285 s = .next { s with sym := 285#9, mlen := 258#9, micro := .distance })

/-- Each of the 30 distance symbols copies mlen bytes from its distance, byte by byte. 44_deflate_decoder.md R219, R220 with the table of 41_huffman_tables.md R157 written out. -/
def Obligations.DistanceElementsCopyTheMatch : Prop :=
  ∀ s : State, s.memoriesOk = true → s.wfill.toNat ≤ 32768 →
  let P : Instr → Nat → Prop := fun i D =>
    D ≤ s.outLen → (s.maxOut = 0 ∨ s.outLen + s.mlen.toNat ≤ s.maxOut) →
    ∃ t copied, exec i s = .next t ∧ copied.length = s.mlen.toNat ∧
      Ref.producedFrom { s with mdist := BitVec.ofNat 16 D, micro := .litLen } t ∧
      Ref.outputGrewBy copied s t ∧ Ref.windowGrewBy copied s t ∧
      ∀ k, k < s.mlen.toNat → t.outBuf.read (s.outLen + k) = t.outBuf.read (s.outLen + k - D)
  P .distance0 1 ∧
  P .distance1 2 ∧
  P .distance2 3 ∧
  P .distance3 4 ∧
  (∀ e : BitVec 1, P (.distance4 e) (5 + e.toNat)) ∧
  (∀ e : BitVec 1, P (.distance5 e) (7 + e.toNat)) ∧
  (∀ e : BitVec 2, P (.distance6 e) (9 + e.toNat)) ∧
  (∀ e : BitVec 2, P (.distance7 e) (13 + e.toNat)) ∧
  (∀ e : BitVec 3, P (.distance8 e) (17 + e.toNat)) ∧
  (∀ e : BitVec 3, P (.distance9 e) (25 + e.toNat)) ∧
  (∀ e : BitVec 4, P (.distance10 e) (33 + e.toNat)) ∧
  (∀ e : BitVec 4, P (.distance11 e) (49 + e.toNat)) ∧
  (∀ e : BitVec 5, P (.distance12 e) (65 + e.toNat)) ∧
  (∀ e : BitVec 5, P (.distance13 e) (97 + e.toNat)) ∧
  (∀ e : BitVec 6, P (.distance14 e) (129 + e.toNat)) ∧
  (∀ e : BitVec 6, P (.distance15 e) (193 + e.toNat)) ∧
  (∀ e : BitVec 7, P (.distance16 e) (257 + e.toNat)) ∧
  (∀ e : BitVec 7, P (.distance17 e) (385 + e.toNat)) ∧
  (∀ e : BitVec 8, P (.distance18 e) (513 + e.toNat)) ∧
  (∀ e : BitVec 8, P (.distance19 e) (769 + e.toNat)) ∧
  (∀ e : BitVec 9, P (.distance20 e) (1025 + e.toNat)) ∧
  (∀ e : BitVec 9, P (.distance21 e) (1537 + e.toNat)) ∧
  (∀ e : BitVec 10, P (.distance22 e) (2049 + e.toNat)) ∧
  (∀ e : BitVec 10, P (.distance23 e) (3073 + e.toNat)) ∧
  (∀ e : BitVec 11, P (.distance24 e) (4097 + e.toNat)) ∧
  (∀ e : BitVec 11, P (.distance25 e) (6145 + e.toNat)) ∧
  (∀ e : BitVec 12, P (.distance26 e) (8193 + e.toNat)) ∧
  (∀ e : BitVec 12, P (.distance27 e) (12289 + e.toNat)) ∧
  (∀ e : BitVec 13, P (.distance28 e) (16385 + e.toNat)) ∧
  (∀ e : BitVec 13, P (.distance29 e) (24577 + e.toNat))

/-- A distance farther back than the output raises InvalidBackReference before any copy. 44_deflate_decoder.md R221; a match as the first element of a stream always fails it (`OUT_LEN = 0`). -/
def Obligations.DistancesBeyondTheOutputAreRefused : Prop :=
  ∀ s : State,
  let P : Instr → Nat → Prop := fun i D =>
    s.outLen < D → ∃ t, exec i s = .next t ∧
      Ref.failedAs 0x32#8 { s with mdist := BitVec.ofNat 16 D, micro := .litLen } t ∧ t.win = s.win
  P .distance0 1 ∧
  P .distance1 2 ∧
  P .distance2 3 ∧
  P .distance3 4 ∧
  (∀ e : BitVec 1, P (.distance4 e) (5 + e.toNat)) ∧
  (∀ e : BitVec 1, P (.distance5 e) (7 + e.toNat)) ∧
  (∀ e : BitVec 2, P (.distance6 e) (9 + e.toNat)) ∧
  (∀ e : BitVec 2, P (.distance7 e) (13 + e.toNat)) ∧
  (∀ e : BitVec 3, P (.distance8 e) (17 + e.toNat)) ∧
  (∀ e : BitVec 3, P (.distance9 e) (25 + e.toNat)) ∧
  (∀ e : BitVec 4, P (.distance10 e) (33 + e.toNat)) ∧
  (∀ e : BitVec 4, P (.distance11 e) (49 + e.toNat)) ∧
  (∀ e : BitVec 5, P (.distance12 e) (65 + e.toNat)) ∧
  (∀ e : BitVec 5, P (.distance13 e) (97 + e.toNat)) ∧
  (∀ e : BitVec 6, P (.distance14 e) (129 + e.toNat)) ∧
  (∀ e : BitVec 6, P (.distance15 e) (193 + e.toNat)) ∧
  (∀ e : BitVec 7, P (.distance16 e) (257 + e.toNat)) ∧
  (∀ e : BitVec 7, P (.distance17 e) (385 + e.toNat)) ∧
  (∀ e : BitVec 8, P (.distance18 e) (513 + e.toNat)) ∧
  (∀ e : BitVec 8, P (.distance19 e) (769 + e.toNat)) ∧
  (∀ e : BitVec 9, P (.distance20 e) (1025 + e.toNat)) ∧
  (∀ e : BitVec 9, P (.distance21 e) (1537 + e.toNat)) ∧
  (∀ e : BitVec 10, P (.distance22 e) (2049 + e.toNat)) ∧
  (∀ e : BitVec 10, P (.distance23 e) (3073 + e.toNat)) ∧
  (∀ e : BitVec 11, P (.distance24 e) (4097 + e.toNat)) ∧
  (∀ e : BitVec 11, P (.distance25 e) (6145 + e.toNat)) ∧
  (∀ e : BitVec 12, P (.distance26 e) (8193 + e.toNat)) ∧
  (∀ e : BitVec 12, P (.distance27 e) (12289 + e.toNat)) ∧
  (∀ e : BitVec 13, P (.distance28 e) (16385 + e.toNat)) ∧
  (∀ e : BitVec 13, P (.distance29 e) (24577 + e.toNat))

/-- A copy that would pass MAXOUT fails after exactly the bytes the bound leaves room for. 44_deflate_decoder.md R212 inside the copy of R219: the bound is checked before each byte. -/
def Obligations.CopiesMeetTheOutputBound : Prop :=
  ∀ s : State, s.memoriesOk = true → s.wfill.toNat ≤ 32768 →
  let P : Instr → Nat → Prop := fun i D =>
    D ≤ s.outLen → s.maxOut ≠ 0 → s.maxOut < s.outLen + s.mlen.toNat → 0 < s.mlen.toNat →
    ∃ t u copied, exec i s = .next t ∧ copied.length = s.maxOut - s.outLen ∧
      Ref.producedFrom { s with mdist := BitVec.ofNat 16 D, micro := .litLen } u ∧
      Ref.outputGrewBy copied s u ∧ Ref.windowGrewBy copied s u ∧ Ref.failedAs 0x92#8 u t ∧
      ∀ k, k < copied.length → u.outBuf.read (s.outLen + k) = u.outBuf.read (s.outLen + k - D)
  P .distance0 1 ∧
  P .distance1 2 ∧
  P .distance2 3 ∧
  P .distance3 4 ∧
  (∀ e : BitVec 1, P (.distance4 e) (5 + e.toNat)) ∧
  (∀ e : BitVec 1, P (.distance5 e) (7 + e.toNat)) ∧
  (∀ e : BitVec 2, P (.distance6 e) (9 + e.toNat)) ∧
  (∀ e : BitVec 2, P (.distance7 e) (13 + e.toNat)) ∧
  (∀ e : BitVec 3, P (.distance8 e) (17 + e.toNat)) ∧
  (∀ e : BitVec 3, P (.distance9 e) (25 + e.toNat)) ∧
  (∀ e : BitVec 4, P (.distance10 e) (33 + e.toNat)) ∧
  (∀ e : BitVec 4, P (.distance11 e) (49 + e.toNat)) ∧
  (∀ e : BitVec 5, P (.distance12 e) (65 + e.toNat)) ∧
  (∀ e : BitVec 5, P (.distance13 e) (97 + e.toNat)) ∧
  (∀ e : BitVec 6, P (.distance14 e) (129 + e.toNat)) ∧
  (∀ e : BitVec 6, P (.distance15 e) (193 + e.toNat)) ∧
  (∀ e : BitVec 7, P (.distance16 e) (257 + e.toNat)) ∧
  (∀ e : BitVec 7, P (.distance17 e) (385 + e.toNat)) ∧
  (∀ e : BitVec 8, P (.distance18 e) (513 + e.toNat)) ∧
  (∀ e : BitVec 8, P (.distance19 e) (769 + e.toNat)) ∧
  (∀ e : BitVec 9, P (.distance20 e) (1025 + e.toNat)) ∧
  (∀ e : BitVec 9, P (.distance21 e) (1537 + e.toNat)) ∧
  (∀ e : BitVec 10, P (.distance22 e) (2049 + e.toNat)) ∧
  (∀ e : BitVec 10, P (.distance23 e) (3073 + e.toNat)) ∧
  (∀ e : BitVec 11, P (.distance24 e) (4097 + e.toNat)) ∧
  (∀ e : BitVec 11, P (.distance25 e) (6145 + e.toNat)) ∧
  (∀ e : BitVec 12, P (.distance26 e) (8193 + e.toNat)) ∧
  (∀ e : BitVec 12, P (.distance27 e) (12289 + e.toNat)) ∧
  (∀ e : BitVec 13, P (.distance28 e) (16385 + e.toNat)) ∧
  (∀ e : BitVec 13, P (.distance29 e) (24577 + e.toNat))

/-- The window holds the last 32768 bytes of the decoder's output, or of the encoder's input. 20_memory.md R65. -/
def Obligations.WindowHoldsTheLastBytes : Prop :=
  let E : State → Prop := fun s =>
    s.wfill.toNat = min s.ipos 32768 ∧ s.wptr.toNat = s.ipos % 32768 ∧
      ∀ d, 1 ≤ d → d ≤ s.wfill.toNat → winAt d s = s.inBuf.read (s.ipos - d)
  (∀ s : State, (start s).windowOk) ∧
  (∀ (x : Byte) (s t : State), s.memoriesOk = true → s.windowOk → put x s = .ok t → t.windowOk) ∧
  (∀ s t : State, s.inv = true → inflating s = true → s.windowOk → step s = .next t →
    (t.busy = true ∨ t.ok = true) → t.windowOk) ∧
  (∀ s : State, s.ipos = 0 → s.wptr = 0#15 → s.wfill = 0#16 → E s) ∧
  (∀ (n : Nat) (s : State), s.memoriesOk = true → E s → E (advance n s) ∧ (advance n s).ipos = s.ipos + n)

/-- DECOMPRESS of any well-formed stream gives exactly the bytes it denotes. 44_deflate_decoder.md R210 to R224. The stream is given by its elements (30_encoding.md R117) and `Ref.streamBits`, not by the machine's decoder. -/
def Obligations.DecompressExpandsStreams : Prop :=
  ∀ (s : State) (level : BitVec 4) (blocks : List Ref.Block) (tail : List Bool) (out : List Byte),
    s.memoriesOk = true → blocks ≠ [] → Ref.streamOk 0 blocks = true →
    bytesBits s.input = Ref.streamBits blocks ++ tail → Ref.expand [] blocks = some out →
    (s.maxOut = 0 ∨ out.length ≤ s.maxOut) →
    ∃ t, exec (.decompress level) s = .next t ∧ t.status = 0x06#8 ∧ t.output = out ∧ t.outBuf = Memory.ofBytes out ∧
      t.outLen = out.length ∧ t.result = 0#32 ∧ t.windowOk ∧
      (∀ a, min out.length 32768 ≤ a → t.win.read a = s.win.read a) ∧
      t = { start s with
        status := t.status, outBuf := t.outBuf, outLen := t.outLen, win := t.win, wptr := t.wptr, wfill := t.wfill,
        rpos := t.rpos, rbit := t.rbit, bfinal := 1#1, btype := t.btype, sym := t.sym, mlen := t.mlen, mdist := t.mdist,
        blen := t.blen, micro := t.micro, zlib := false }

/-- Each decoding command is its stream elements run one by one. The atomic command (00_scope.md R16) against the micro-phases of R28 (log 1): no round of a decoder's loop is lost and none is cut short. -/
def Obligations.DecodersAreIteratedSteps : Prop :=
  ∀ (s : State) (level : BitVec 4),
    (∃ n t, exec (.decompress level) s = .next t ∧
      Ref.reaches n { start s with micro := .blockHeader, zlib := false } t ∧ t.busy = false) ∧
    (∃ n t, exec (.decompressZlib level) s = .next t ∧ Ref.reaches n { start s with micro := .zlibCmf } t ∧
      t.busy = false) ∧
    (∃ n t, exec (.decodeChannel level) s = .next t ∧ Ref.reaches n { start s with micro := .escape } t ∧
      t.busy = false) ∧
    (∃ n t, exec (.decodePrint level) s = .next t ∧ Ref.reaches n { start s with micro := .print } t ∧ t.busy = false)

/-- The zlib header elements accept exactly the headers HeaderCheck accepts. 45_zlib.md R244, with the length test (1) of R246. -/
def Obligations.ZlibHeaderBytesAreChecked : Prop :=
  ∀ (cmf flg : Byte) (s : State),
    (s.inLen < 2 → ∃ t, exec (.zlibCmf cmf) s = .next t ∧ Ref.failedAs 0x12#8 s t) ∧
    (2 ≤ s.inLen → cmf &&& 0x0F#8 ≠ 8#8 → ∃ t, exec (.zlibCmf cmf) s = .next t ∧ Ref.failedAs 0x42#8 s t) ∧
    (2 ≤ s.inLen → cmf &&& 0x0F#8 = 8#8 → exec (.zlibCmf cmf) s = .next { s with micro := .zlibFlg }) ∧
    (s.inBuf.read 0 = cmf →
      (Ref.headerOk cmf flg = false → ∃ t, exec (.zlibFlg flg) s = .next t ∧ Ref.failedAs 0x42#8 s t) ∧
      (Ref.headerOk cmf flg = true → exec (.zlibFlg flg) s = .next { s with micro := .zlibPayload }))

/-- The zlib payload element runs the DEFLATE decoder over IN[2..IN_LEN-4] only. 45_zlib.md R245, R246 (3). -/
def Obligations.ZlibPayloadIsInflated : Prop :=
  ∀ s : State, s.inv = true → s.busy = true →
    (s.inLen < 6 → ∃ t, exec .zlibPayload s = .next t ∧ Ref.failedAs 0x12#8 s t) ∧
    (∀ (blocks : List Ref.Block) (tail : List Bool) (out : List Byte), 6 ≤ s.inLen → blocks ≠ [] →
      Ref.streamOk 0 blocks = true →
      bytesBits (s.inBuf.bytes 2 (s.inLen - 6)) = Ref.streamBits blocks ++ tail →
      Ref.expand s.output blocks = some out → (s.maxOut = 0 ∨ out.length ≤ s.maxOut) →
      ∃ t, exec .zlibPayload s = .next t ∧ t.busy = true ∧ t.micro = .zlibTrailer ∧ t.output = out ∧
        t.outLen = out.length ∧ t.rbase = 2 ∧ t.rend = s.inLen - 4 ∧
        (∀ a, out.length ≤ a → t.outBuf.read a = s.outBuf.read a) ∧
        t = { s with
          outBuf := t.outBuf, outLen := t.outLen, win := t.win, wptr := t.wptr, wfill := t.wfill, rbase := t.rbase,
          rend := t.rend, rpos := t.rpos, rbit := t.rbit, bfinal := 1#1, btype := t.btype, sym := t.sym, mlen := t.mlen,
          mdist := t.mdist, blen := t.blen, micro := t.micro, zlib := true })

/-- The trailer element compares the checksum of the output and keeps the output either way. 45_zlib.md R245, R247, with the closed form of 46_adler32.md R266. -/
def Obligations.ZlibTrailerDecidesTheEnd : Prop :=
  ∀ (sum : BitVec 32) (s : State),
    exec (.zlibAdler32 sum) s = .next { s with
      a := BitVec.ofNat 16 (Ref.adlerA s.output), b := BitVec.ofNat 16 (Ref.adlerB s.output),
      result := Ref.adler s.output, status := if Ref.adler s.output = sum then 0x06#8 else 0x52#8 }

/-- COMPRESS_ZLIB is 78 9C, then COMPRESS of the same input, then the big-endian checksum. 45_zlib.md R242. -/
def Obligations.CompressZlibWrapsCompress : Prop :=
  ∀ (s : State) (level : BitVec 4), level.toNat ≤ 9 →
    ∃ t u, exec (.compressZlib level) s = .next t ∧ exec (.compress level) s = .next u ∧
      t.status = 0x06#8 ∧ t.output = [0x78#8, 0x9C#8] ++ u.output ++ Ref.bigEndian (Ref.adler s.input) ∧
      t.outLen = u.outLen + 6 ∧ t.outBuf = Memory.ofBytes t.output ∧ t.result = Ref.adler s.input ∧
      t = { u with
        outBuf := t.outBuf, outLen := t.outLen, result := t.result, a := BitVec.ofNat 16 (Ref.adlerA s.input),
        b := BitVec.ofNat 16 (Ref.adlerB s.input) }

/-- DECOMPRESS_ZLIB makes its checks in the stated order. 45_zlib.md R246, and the expansion of 30_encoding.md R118. -/
def Obligations.DecompressZlibChecksInOrder : Prop :=
  ∀ (s : State) (level : BitVec 4), ∃ t, exec (.decompressZlib level) s = .next t ∧
    (s.inLen < 2 → t.status = 0x12#8 ∧ t.result = 0#32) ∧
    (2 ≤ s.inLen → Ref.headerOk (s.inBuf.read 0) (s.inBuf.read 1) = false → t.status = 0x42#8 ∧ t.result = 0#32) ∧
    (2 ≤ s.inLen → s.inLen < 6 → Ref.headerOk (s.inBuf.read 0) (s.inBuf.read 1) = true →
      t.status = 0x12#8 ∧ t.result = 0#32) ∧
    (6 ≤ s.inLen → Ref.headerOk (s.inBuf.read 0) (s.inBuf.read 1) = true →
      ∀ (r u : State), r.input = s.inBuf.bytes 2 (s.inLen - 6) → r.maxOut = s.maxOut →
        exec (.decompress level) r = .next u →
        (u.ok = false → t.status = u.status ∧ t.result = 0#32) ∧
        (u.ok = true → t.output = u.output ∧ t.outLen = u.outLen ∧ t.result = Ref.adler u.output ∧
          (s.inBuf.bytes (s.inLen - 4) 4 = Ref.bigEndian (Ref.adler u.output) → t.status = 0x06#8) ∧
          (s.inBuf.bytes (s.inLen - 4) 4 ≠ Ref.bigEndian (Ref.adler u.output) → t.status = 0x52#8)))

/-- DECOMPRESS_ZLIB of a well-formed envelope gives its bytes and judges the trailer. 45_zlib.md R245 and R247: the output is kept on a mismatch. -/
def Obligations.DecompressZlibExpandsStreams : Prop :=
  ∀ (s : State) (level : BitVec 4) (cmf flg : Byte) (payload : List Byte) (v : BitVec 32)
    (blocks : List Ref.Block) (tail : List Bool) (out : List Byte),
    s.memoriesOk = true → Ref.headerOk cmf flg = true → s.input = [cmf, flg] ++ payload ++ Ref.bigEndian v →
    blocks ≠ [] → Ref.streamOk 0 blocks = true → bytesBits payload = Ref.streamBits blocks ++ tail →
    Ref.expand [] blocks = some out → (s.maxOut = 0 ∨ out.length ≤ s.maxOut) →
    ∃ t, exec (.decompressZlib level) s = .next t ∧
      t.status = (if v = Ref.adler out then 0x06#8 else 0x52#8) ∧ t.output = out ∧ t.outLen = out.length ∧
      t.result = Ref.adler out ∧ t.outBuf = Memory.ofBytes out ∧
      (∀ a, min out.length 32768 ≤ a → t.win.read a = s.win.read a) ∧
      t = { start s with
        status := t.status, outBuf := t.outBuf, outLen := t.outLen, result := t.result, win := t.win, wptr := t.wptr,
        wfill := t.wfill, rbase := 2, rend := s.inLen - 4, rpos := t.rpos, rbit := t.rbit,
        a := BitVec.ofNat 16 (Ref.adlerA out), b := BitVec.ofNat 16 (Ref.adlerB out), bfinal := 1#1, btype := t.btype,
        sym := t.sym, mlen := t.mlen, mdist := t.mdist, blen := t.blen, micro := t.micro, zlib := true }

/-- DECOMPRESS_ZLIB undoes COMPRESS_ZLIB at every level. 45_zlib.md R248 (a), and its scenario of the corrupted trailer (b). -/
def Obligations.ZlibRoundTrip : Prop :=
  ∀ (s t r : State) (level level' : BitVec 4), level.toNat ≤ 9 → exec (.compressZlib level) s = .next t →
    (r.maxOut = 0 ∨ s.inLen ≤ r.maxOut) →
    (r.input = t.output →
      ∃ u, exec (.decompressZlib level') r = .next u ∧ u.status = 0x06#8 ∧ u.output = s.input ∧
        u.result = Ref.adler s.input) ∧
    (∀ v : BitVec 32, v ≠ Ref.adler s.input →
      r.input = t.output.take (t.outLen - 4) ++ Ref.bigEndian v →
      ∃ u, exec (.decompressZlib level') r = .next u ∧ u.status = 0x52#8 ∧ u.output = s.input)

/-- One checksum step: a takes the byte, b takes the new a, both reduced. 46_adler32.md R261. -/
def Obligations.AdlerStepUsesTheNewA : Prop :=
  (∀ (x : Byte) (s : State), s.a.toNat ≤ 65520 → s.b.toNat ≤ 65520 →
    (adlerStep x s).a.toNat = (s.a.toNat + x.toNat) % 65521 ∧
    (adlerStep x s).b.toNat = (s.b.toNat + (adlerStep x s).a.toNat) % 65521 ∧
    (adlerStep x s).a.toNat ≤ 65520 ∧ (adlerStep x s).b.toNat ≤ 65520 ∧
    (x = 0#8 → (adlerStep x s).a = s.a) ∧ (s.a = 65520#16 → x = 255#8 → (adlerStep x s).a = 254#16) ∧
    adlerStep x s = { s with a := (adlerStep x s).a, b := (adlerStep x s).b }) ∧
  (∀ s : State, s.a = 1#16 → s.b = 0#16 → (adlerStep 0x61#8 s).a = 98#16 ∧ (adlerStep 0x61#8 s).b = 98#16)

/-- The ADLER32 command's RESULT is the closed form of the input bytes. 46_adler32.md R262, R263, R264, R266. -/
def Obligations.Adler32CommandGivesTheClosedForm : Prop :=
  ∀ (s : State) (level : BitVec 4),
    exec (.adler32 level) s = .next { start s with
      status := 0x06#8, result := Ref.adler s.input, a := BitVec.ofNat 16 (Ref.adlerA s.input),
      b := BitVec.ofNat 16 (Ref.adlerB s.input), ipos := s.inLen } ∧
    (s.inLen = 0 → Ref.adler s.input = 1#32) ∧
    (Ref.adler s.input).toNat = Ref.adlerB s.input * 2 ^ 16 + Ref.adlerA s.input

/-- ENCODE_CHANNEL replaces exactly the three reserved bytes by their pairs. 47_channel_escaper.md R271, R270. -/
def Obligations.EncodeChannelEscapes : Prop :=
  ∀ (s : State) (level : BitVec 4),
    exec (.encodeChannel level) s = .next { start s with
      status := 0x06#8, outBuf := Memory.ofBytes (Ref.escape s.input), outLen := (Ref.escape s.input).length,
      ipos := s.inLen } ∧
    (Ref.escape s.input).length = s.inLen + (s.input.filter fun x => x == 0x00#8 || x == 0x01#8 || x == 0xFF#8).length ∧
    (Ref.escape s.input).length ≤ 2 * s.inLen ∧
    (∀ x, x ∈ Ref.escape s.input → x ≠ 0x00#8 ∧ x ≠ 0xFF#8) ∧ (Ref.unescape (Ref.escape s.input)).isSome = true

/-- Each escape element appends the byte it stands for; an invalid one raises InvalidEscape. 47_channel_escaper.md R272, R273. -/
def Obligations.EscapeElementsAppendTheirByte : Prop :=
  ∀ (x : Byte) (f : Option Byte) (s : State),
    exec .esc00 s = .next { s with outBuf := s.outBuf.write s.outLen 0x00#8, outLen := s.outLen + 1 } ∧
    exec .esc01 s = .next { s with outBuf := s.outBuf.write s.outLen 0x01#8, outLen := s.outLen + 1 } ∧
    exec .escFF s = .next { s with outBuf := s.outBuf.write s.outLen 0xFF#8, outLen := s.outLen + 1 } ∧
    exec (.escPlain x) s = .next { s with outBuf := s.outBuf.write s.outLen x, outLen := s.outLen + 1 } ∧
    (∀ a, a ≠ s.outLen → (s.outBuf.write s.outLen x).read a = s.outBuf.read a) ∧
    (s.outBuf.wf = true → (s.outBuf.write s.outLen x).read s.outLen = x) ∧
    ∃ t, exec (.escInvalid f) s = .next t ∧ Ref.failedAs 0x62#8 s t

/-- DECODE_CHANNEL is the exact inverse, or InvalidEscape. 47_channel_escaper.md R272; the micro-phase field is the model's own (log 2). -/
def Obligations.DecodeChannelUnescapes : Prop :=
  (∀ (s : State) (level : BitVec 4),
    (∀ out, Ref.unescape s.input = some out →
      exec (.decodeChannel level) s = .next { start s with
        status := 0x06#8, outBuf := Memory.ofBytes out, outLen := out.length, ipos := s.inLen, micro := .escape }) ∧
    (Ref.unescape s.input = none →
      ∃ t, exec (.decodeChannel level) s = .next t ∧ t.result = 0#32 ∧
        Ref.failedAs 0x62#8 { start s with ipos := t.ipos, micro := .escape } t)) ∧
  Ref.unescape [0x01#8, 0x01#8, 0x01#8, 0x02#8, 0x01#8, 0x03#8, 0x41#8] = some [0x00#8, 0x01#8, 0xFF#8, 0x41#8] ∧
  Ref.unescape [0x41#8, 0x01#8] = none ∧ Ref.unescape [0x01#8, 0x04#8] = none ∧ Ref.unescape [0x01#8, 0x00#8] = none ∧
  Ref.unescape [0x01#8, 0x01#8, 0x01#8, 0x02#8] = some [0x00#8, 0x01#8]

/-- Channel round trip, and escaping leaves clean data alone. 47_channel_escaper.md R274. -/
def Obligations.ChannelRoundTrip : Prop :=
  (∀ (s t r : State) (level level' : BitVec 4), exec (.encodeChannel level) s = .next t → r.input = t.output →
    ∃ u, exec (.decodeChannel level') r = .next u ∧ u.status = 0x06#8 ∧ u.output = s.input) ∧
  (∀ (s t : State) (level : BitVec 4), (∀ x, x ∈ s.input → x ≠ 0x00#8 ∧ x ≠ 0x01#8 ∧ x ≠ 0xFF#8) →
    exec (.encodeChannel level) s = .next t → t.output = s.input) ∧
  (∀ (s t r u : State) (level : BitVec 4), s.input = [0x00#8] → exec (.encodeChannel level) s = .next t →
    r.input = t.output → exec (.encodeChannel level) r = .next u → u.output = [0x01#8, 0x02#8, 0x01#8, 0x02#8]) ∧
  (∀ (s : State) (level : BitVec 4), (∃ t, exec (.encodeChannel level) s = .next t ∧ t.done = true) ∧
    ∃ t, exec (.decodeChannel level) s = .next t ∧ t.done = true)

/-- ENCODE_PRINT writes standard Base64 with padding. 48_base64.md R283, R281, R282. -/
def Obligations.EncodePrintWritesBase64 : Prop :=
  (∀ (s : State) (level : BitVec 4), ∃ t, exec (.encodePrint level) s = .next t ∧
    t = { start s with
      status := 0x06#8, outBuf := Memory.ofBytes (Ref.base64 s.input), outLen := (Ref.base64 s.input).length,
      ipos := s.inLen, grp := t.grp } ∧
    (Ref.base64 s.input).length = 4 * ((s.inLen + 2) / 3)) ∧
  Ref.base64 [0x66#8] = [0x5A#8, 0x67#8, 0x3D#8, 0x3D#8] ∧ Ref.base64 [0x66#8, 0x6F#8] = [0x5A#8, 0x6D#8, 0x38#8, 0x3D#8] ∧
  Ref.base64 [0x66#8, 0x6F#8, 0x6F#8] = [0x5A#8, 0x6D#8, 0x39#8, 0x76#8] ∧ Ref.base64 [] = [] ∧
  Ref.base64 [0x00#8] = [0x41#8, 0x41#8, 0x3D#8, 0x3D#8] ∧
  Ref.base64 [0xFF#8, 0xFF#8, 0xFF#8] = [0x2F#8, 0x2F#8, 0x2F#8, 0x2F#8]

/-- Each character class of a Base64 text acts on the group, the padding or nothing. 48_base64.md R284 to R288: the single pass of R288 (log 11). grp after a full group and at the end is as R285 leaves it; gcnt = 0 after a full group is read from R288's `r = gcnt` (log 13). -/
def Obligations.Base64CharactersShiftIntoTheGroup : Prop :=
  ∀ (c : Byte) (s : State), s.gcnt.toNat ≤ 3 → s.outBuf.wf = true →
    let alphabetClass : Instr → Nat → Prop := fun i k =>
      let g := s.grp.toNat * 64 % 2 ^ 24 + k
      (s.micro = .print → s.gcnt.toNat < 3 →
        exec i s = .next { s with grp := BitVec.ofNat 24 g, gcnt := s.gcnt + 1#3 }) ∧
      (s.micro = .print → s.gcnt = 3#3 →
        ∃ t, exec i s = .next t ∧
          Ref.outputGrewBy [BitVec.ofNat 8 (g / 65536), BitVec.ofNat 8 (g / 256), BitVec.ofNat 8 g] s t ∧
          t = { s with outBuf := t.outBuf, outLen := s.outLen + 3, grp := BitVec.ofNat 24 g, gcnt := 0#3 }) ∧
      (∀ p, s.micro = .printPad (p + 1) → ∃ t, exec i s = .next t ∧ Ref.failedAs 0x72#8 s t)
    (0x41 ≤ c.toNat → c.toNat ≤ 0x5A → alphabetClass (.b64Upper c) (c.toNat - 0x41)) ∧
    (0x61 ≤ c.toNat → c.toNat ≤ 0x7A → alphabetClass (.b64Lower c) (c.toNat - 0x61 + 26)) ∧
    (0x30 ≤ c.toNat → c.toNat ≤ 0x39 → alphabetClass (.b64Digit c) (c.toNat - 0x30 + 52)) ∧
    alphabetClass .b64Plus 62 ∧ alphabetClass .b64Slash 63 ∧
    (s.micro = .print → exec .b64Pad s = .next { s with micro := .printPad 1 }) ∧
    (∀ p, s.micro = .printPad p → exec .b64Pad s = .next { s with micro := .printPad (p + 1) }) ∧
    exec (.b64Ws c) s = .next s ∧
    (∃ t, exec (.b64Invalid c) s = .next t ∧ Ref.failedAs 0x72#8 s t) ∧
    (∀ p, s.busy = true → s.inLen ≤ s.ipos → ((s.micro = .print ∧ p = 0) ∨ s.micro = .printPad p) →
      ∃ t, step s = .next t ∧
        (2 < p ∨ s.gcnt = 1#3 ∨ (0 < p ∧ (s.gcnt.toNat + p) % 4 ≠ 0) → Ref.failedAs 0x72#8 s t) ∧
        (¬ (2 < p ∨ s.gcnt = 1#3 ∨ (0 < p ∧ (s.gcnt.toNat + p) % 4 ≠ 0)) →
          t = { s with
            status := 0x06#8, outBuf := t.outBuf, outLen := t.outLen,
            grp := if s.gcnt = 2#3 then BitVec.ofNat 24 (s.grp.toNat * 4096) else if s.gcnt = 3#3 then
              BitVec.ofNat 24 (s.grp.toNat * 64) else s.grp } ∧
          (s.gcnt = 0#3 → Ref.outputGrewBy [] s t) ∧
          (s.gcnt = 2#3 → Ref.outputGrewBy [BitVec.ofNat 8 (s.grp.toNat * 4096 % 2 ^ 24 / 65536)] s t) ∧
          (s.gcnt = 3#3 → Ref.outputGrewBy [BitVec.ofNat 8 (s.grp.toNat * 64 % 2 ^ 24 / 65536),
            BitVec.ofNat 8 (s.grp.toNat * 64 % 2 ^ 24 / 256)] s t)))

/-- DECODE_PRINT is the two-pass decoding the rule writes. 48_base64.md R285 (R284, R286, R287): the machine runs the single pass of R288, the statement compares it with the two passes. grp ends as R285 leaves it; gcnt, which R285 does not name, is the model's (log 13). -/
def Obligations.DecodePrintIsTheTwoPassDecoding : Prop :=
  ∀ (s : State) (level : BitVec 4), ∃ t, exec (.decodePrint level) s = .next t ∧
    (∀ out, Ref.unbase64 s.input = some out →
      t = { start s with
        status := 0x06#8, outBuf := Memory.ofBytes out, outLen := out.length, ipos := s.inLen,
        grp := BitVec.ofNat 24 (Ref.lastGrp ((Ref.bodyIndices s.input).getD [])), gcnt := t.gcnt, micro := t.micro }) ∧
    (Ref.unbase64 s.input = none → t.result = 0#32 ∧
      Ref.failedAs 0x72#8 { start s with ipos := t.ipos, grp := t.grp, gcnt := t.gcnt, micro := t.micro } t)

/-- DECODE_PRINT undoes ENCODE_PRINT, with any whitespace inserted anywhere. 48_base64.md R289. -/
def Obligations.PrintRoundTripWithNoise : Prop :=
  (∀ (s t r : State) (level level' : BitVec 4), exec (.encodePrint level) s = .next t →
    (r.input = t.output ∨ (r.input.filter fun c => !Ref.isSpace c) = t.output) →
    ∃ u, exec (.decodePrint level') r = .next u ∧ u.status = 0x06#8 ∧ u.output = s.input) ∧
  (∀ (s : State) (level : BitVec 4), (∃ t, exec (.encodePrint level) s = .next t ∧ t.done = true ∧
      ∀ c, c ∈ t.output → c ∈ Ref.alphabet ∨ c = 0x3D#8) ∧
    ∃ t, exec (.decodePrint level) s = .next t ∧ t.done = true)

/-- FindMatch finds the longest match, the nearest of equal ones, or none. 42_matcher.md R176 (R170 to R174). -/
def Obligations.FindMatchIsLongestAndNearest : Prop :=
  ∀ (s : State) (p : Nat), p < s.inLen →
    let t := findMatch p s
    t = { s with bestLen := t.bestLen, bestDist := t.bestDist } ∧
    (3 ≤ t.bestLen.toNat →
      Ref.bestAt s.input p t.bestDist.toNat t.bestLen.toNat ∧ t.bestLen.toNat ≤ 258 ∧
      t.bestLen.toNat ≤ s.inLen - p) ∧
    (t.bestLen.toNat < 3 → Ref.noMatchAt s.input p)

/-- COMPRESS at level 0 writes the stored blocks of 65535 bytes. 43_deflate_encoder.md R187, R188, R196. -/
def Obligations.CompressLevelZeroStores : Prop :=
  ∀ s : State,
    exec (.compress 0#4) s = .next { start s with
      status := 0x06#8, outBuf := Memory.ofBytes (Ref.storedStream s.input), outLen := (Ref.storedStream s.input).length,
      ipos := s.inLen } ∧
    (Ref.storedStream s.input).length = s.inLen + 5 * max 1 ((s.inLen + 65534) / 65535)

/-- COMPRESS at levels 1 to 9 writes one fixed block of the greedy parse. 43_deflate_encoder.md R189 to R195. The spec's levels are 1 to 9; levels 10 to 15 never reach this rule (R304). -/
def Obligations.CompressFixedWritesTheGreedyParse : Prop :=
  ∀ (s : State) (level : BitVec 4), s.memoriesOk = true → level ≠ 0#4 →
    (∃ t symbols pad, exec (.compress level) s = .next t ∧ Ref.parses s.input 0 symbols ∧ pad < 8 ∧
      bytesBits t.output = [true, true, false] ++ symbols.flatMap Ref.Symbol.bits ++ List.replicate 7 false ++
        List.replicate pad false ∧
      t.outBuf = Memory.ofBytes t.output ∧ t.wfill.toNat = min s.inLen 32768 ∧
      (∀ d, 1 ≤ d → d ≤ t.wfill.toNat → winAt d t = s.inBuf.read (s.inLen - d)) ∧
      (∀ a, min s.inLen 32768 ≤ a → t.win.read a = s.win.read a) ∧
      t = { start s with
        status := 0x06#8, outBuf := t.outBuf, outLen := t.outLen, ipos := s.inLen, win := t.win, wptr := t.wptr,
        wfill := t.wfill, bestLen := t.bestLen, bestDist := t.bestDist }) ∧
    (∀ level', level' ≠ 0#4 → exec (.compress level') s = exec (.compress level) s)

/-- DECOMPRESS undoes COMPRESS at every level. 43_deflate_encoder.md R197. -/
def Obligations.CompressRoundTrip : Prop :=
  ∀ (s t r : State) (level level' : BitVec 4), level.toNat ≤ 9 → exec (.compress level) s = .next t →
    r.input = t.output → (r.maxOut = 0 ∨ s.inLen ≤ r.maxOut) →
    ∃ u, exec (.decompress level') r = .next u ∧ u.status = 0x06#8 ∧ u.output = s.input ∧ u.outLen = s.inLen

/-- From every idle state START reaches done, and every step answers a next state. 70_reset_and_hazards.md R375; 60_exceptions.md R335. -/
def Obligations.EveryCommandEnds : Prop :=
  (∀ s : State, s.busy = false →
    ∃ t, step s = .next t ∧ t.busy = false ∧ t.done = true ∧ (t.ok = true ↔ t.err = 0#4) ∧ t.phase = .done) ∧
  (∀ s : State, ∃ t, step s = .next t)

/-- Every step and every host move keeps the machine's invariant. `State.inv` of Safety.lean. It is about every state that meets it, not only those a run reaches. -/
def Obligations.InvariantIsKept : Prop :=
  (∀ s t : State, s.inv = true → step s = .next t → t.inv = true) ∧
  (∀ (s t : State) (w : BitVec 8) (n i : Nat) (x : Byte) (xs : List Byte), s.inv = true →
    (hostWriteCmd w s = some t ∨ hostWriteInLen n s = some t ∨ hostWriteMaxOut n s = some t ∨
      hostWriteIn i x s = some t ∨ hostLoad xs s = some t ∨ t = hostReset s) → t.inv = true)

/-- The state after reset meets the invariant. The first state of a run. The values R43 leaves unspecified are the model's choice (log 4, log 5). -/
def Obligations.InvariantHoldsAtReset : Prop :=
  State.reset.inv = true

/-- No instruction writes CMD, IN_LEN, MAXOUT or IN. 20_memory.md R61, R77; 10_state.md R21, R23, R25 (engine read-only). -/
def Obligations.TheEngineNeverWritesItsInputs : Prop :=
  (∀ (i : Instr) (s t : State), exec i s = .next t →
    t.cmd = s.cmd ∧ t.inLen = s.inLen ∧ t.maxOut = s.maxOut ∧ t.inBuf = s.inBuf) ∧
  (∀ s t : State, step s = .next t → t.cmd = s.cmd ∧ t.inLen = s.inLen ∧ t.maxOut = s.maxOut ∧ t.inBuf = s.inBuf)

/-- No command raises a kind outside its row, and the encoders never fail. 60_exceptions.md R323, R322. -/
def Obligations.FailureKindsOfEachCommand : Prop :=
  (∀ (s t : State) (level : BitVec 4),
    (exec (.compress level) s = .next t ∨ exec (.compressZlib level) s = .next t ∨
      exec (.encodeChannel level) s = .next t ∨ exec (.encodePrint level) s = .next t ∨
      exec (.adler32 level) s = .next t → t.ok = true ∧ t.err = 0#4) ∧
    (exec (.decompress level) s = .next t → t.err ∈ [0#4, 1#4, 2#4, 3#4, 8#4, 9#4]) ∧
    (exec (.decompressZlib level) s = .next t → t.err ∈ [0#4, 1#4, 2#4, 3#4, 4#4, 5#4, 8#4, 9#4]) ∧
    (exec (.decodeChannel level) s = .next t → t.err ∈ [0#4, 6#4]) ∧
    (exec (.decodePrint level) s = .next t → t.err ∈ [0#4, 7#4])) ∧
  (∀ k, k ∈ [0#4, 1#4, 2#4, 3#4, 8#4, 9#4] → ∃ s t, exec (.decompress 0#4) s = .next t ∧ t.err = k) ∧
  (∀ k, k ∈ [0#4, 1#4, 2#4, 3#4, 4#4, 5#4, 8#4, 9#4] → ∃ s t, exec (.decompressZlib 0#4) s = .next t ∧ t.err = k) ∧
  (∀ k, k ∈ [0#4, 6#4] → ∃ s t, exec (.decodeChannel 0#4) s = .next t ∧ t.err = k) ∧
  (∀ k, k ∈ [0#4, 7#4] → ∃ s t, exec (.decodePrint 0#4) s = .next t ∧ t.err = k)

/-- RESULT is the checksum where one was computed and 0 after everything else. 10_state.md R26; 60_exceptions.md R333. -/
def Obligations.ResultRegisterAfterEachCommand : Prop :=
  ∀ s t : State, s.busy = false → step s = .next t →
    ((∃ level, decodeCommand s.cmd = .adler32 level ∨ decodeCommand s.cmd = .compressZlib level) →
      t.result = Ref.adler s.input) ∧
    ((∃ level, decodeCommand s.cmd = .decompressZlib level) →
      (t.ok = true ∨ t.err = 5#4 → t.result = Ref.adler t.output) ∧
      (t.ok = false → t.err ≠ 5#4 → t.result = 0#32)) ∧
    ((∀ level, decodeCommand s.cmd ≠ .adler32 level ∧ decodeCommand s.cmd ≠ .compressZlib level ∧
        decodeCommand s.cmd ≠ .decompressZlib level) → t.result = 0#32)

/-- A command's answer depends on CMD, the input bytes and MAXOUT alone. 49_host_interface.md R306, 60_exceptions.md R334: no command leaves a trace. R306 also counts OUT_LEN after any failure as determined; R332 lets a model treat it as any value, and this model does (log 3). -/
def Obligations.CommandsAreFunctionsOfTheirArguments : Prop :=
  ∀ s s' t t' : State, s.busy = false → s'.busy = false → s.cmd = s'.cmd → Ref.sameArguments s s' →
    step s = .next t → step s' = .next t' →
    t.status = t'.status ∧ t.result = t'.result ∧
      (t.ok = true ∨ t.err = 5#4 ∨ t.err = 15#4 → t.output = t'.output ∧ t.outLen = t'.outLen ∧ t.outBuf = t'.outBuf)

/-- MAXOUT bounds the output of the two decompress commands and nothing else reads it. 10_state.md R25; 44_deflate_decoder.md R212. -/
def Obligations.MaxOutBoundsOnlyTheDecompressors : Prop :=
  (∀ (s t : State) (level : BitVec 4),
    exec (.decompress level) s = .next t ∨ exec (.decompressZlib level) s = .next t →
    s.maxOut ≠ 0 → t.ok = true ∨ t.err = 5#4 → t.outLen ≤ s.maxOut) ∧
  (∀ (i : Instr) (s t : State) (m : Nat), i.ctx = none →
    (∀ level, i ≠ .decompress level ∧ i ≠ .decompressZlib level) → exec i s = .next t →
    exec i { s with maxOut := m } = .next { t with maxOut := m })

/-- The output of DECOMPRESS is at most 159 times its input. 70_reset_and_hazards.md R374. -/
def Obligations.ExpansionIsBounded : Prop :=
  ∀ (s t : State) (level : BitVec 4), exec (.decompress level) s = .next t → t.ok = true → t.outLen ≤ 159 * s.inLen

/-- Every other command's output length is within the bound the host must provide for. 70_reset_and_hazards.md R373; 43_deflate_encoder.md R196. -/
def Obligations.OutputSizesAreWithinTheStatedBounds : Prop :=
  ∀ (s t : State) (level : BitVec 4),
    (exec (.compress 0#4) s = .next t → t.outLen = s.inLen + 5 * max 1 ((s.inLen + 65534) / 65535)) ∧
    (level ≠ 0#4 → exec (.compress level) s = .next t → t.outLen ≤ (10 + 9 * s.inLen + 7) / 8) ∧
    (exec (.compressZlib 0#4) s = .next t → t.outLen = s.inLen + 5 * max 1 ((s.inLen + 65534) / 65535) + 6) ∧
    (level ≠ 0#4 → exec (.compressZlib level) s = .next t → t.outLen ≤ (10 + 9 * s.inLen + 7) / 8 + 6) ∧
    (exec (.encodeChannel level) s = .next t → t.outLen ≤ 2 * s.inLen) ∧
    (exec (.encodePrint level) s = .next t → t.outLen = 4 * ((s.inLen + 2) / 3)) ∧
    (exec (.decodeChannel level) s = .next t → t.ok = true → t.outLen ≤ s.inLen) ∧
    (exec (.decodePrint level) s = .next t → t.ok = true → t.outLen ≤ s.inLen)
end

