-- ==== Sys2Proof/Laws/Memory.lean ====
section
/-! SUPPORT. The laws of the byte memories: reading after writing, and that every operation keeps the canonical form. -/

namespace Sys2Proof.Machine

@[simp] theorem Memory.read_nil (a : Nat) : Memory.read [] a = Memory.unlisted := rfl

@[simp] theorem Memory.read_cons (k : Nat) (v : Byte) (m : Memory) (a : Nat) :
    Memory.read ((k, v) :: m) a = if k = a then v else Memory.read m a := rfl

/-- Below the first listed address a memory reads as unlisted. -/
theorem Memory.read_below {lo a : Nat} {m : Memory} (h : Memory.wfFrom lo m = true) (ha : a < lo) :
    m.read a = Memory.unlisted := by
  induction m generalizing lo with
  | nil => rfl
  | cons cell rest ih =>
    obtain ⟨k, v⟩ := cell
    simp only [Memory.wfFrom, Bool.and_eq_true, decide_eq_true_eq] at h
    rw [Memory.read_cons, if_neg (by omega), ih h.2 (by omega)]

/-- A canonical form from one address on is one from any lower address on. -/
theorem Memory.wfFrom_mono {lo lo' : Nat} {m : Memory} (h : Memory.wfFrom lo m = true) (hle : lo' ≤ lo) :
    Memory.wfFrom lo' m = true := by
  cases m with
  | nil => rfl
  | cons cell rest =>
    obtain ⟨k, v⟩ := cell
    simp only [Memory.wfFrom, Bool.and_eq_true, decide_eq_true_eq] at h ⊢
    exact ⟨⟨by omega, h.1.2⟩, h.2⟩

theorem Memory.wfFrom_cell {lo a : Nat} {x : Byte} {m : Memory} (h : Memory.wfFrom (a + 1) m = true) (hle : lo ≤ a) :
    Memory.wfFrom lo (Memory.cell a x m) = true := by
  unfold Memory.cell
  split
  · exact Memory.wfFrom_mono h (by omega)
  · rename_i hx
    simp [Memory.wfFrom, hle, hx, h]

/-- A write keeps the canonical form. -/
theorem Memory.wfFrom_write {lo a : Nat} {x : Byte} {m : Memory} (h : Memory.wfFrom lo m = true) (hle : lo ≤ a) :
    Memory.wfFrom lo (m.write a x) = true := by
  induction m generalizing lo with
  | nil => exact Memory.wfFrom_cell rfl hle
  | cons cell rest ih =>
    obtain ⟨k, v⟩ := cell
    have h' := h
    simp only [Memory.wfFrom, Bool.and_eq_true, decide_eq_true_eq] at h
    unfold Memory.write
    split
    · exact Memory.wfFrom_cell (by simp only [Memory.wfFrom, Bool.and_eq_true, decide_eq_true_eq]; exact ⟨⟨by omega, h.1.2⟩, h.2⟩) hle
    · split
      · exact Memory.wfFrom_cell (by simp [*]) hle
      · simp only [Memory.wfFrom, Bool.and_eq_true, decide_eq_true_eq]
        exact ⟨h.1, ih h.2 (by omega)⟩

theorem Memory.wf_write {m : Memory} (h : m.wf = true) (a : Nat) (x : Byte) : (m.write a x).wf = true :=
  Memory.wfFrom_write h (Nat.zero_le a)

theorem Memory.read_cell_same {a : Nat} {x : Byte} {m : Memory} (h : m.read a = Memory.unlisted) :
    (Memory.cell a x m).read a = x := by
  unfold Memory.cell; split <;> simp [*]

theorem Memory.read_cell_other {a b : Nat} {x : Byte} {m : Memory} (h : b ≠ a) : (Memory.cell a x m).read b = m.read b := by
  unfold Memory.cell; split
  · rfl
  · rw [Memory.read_cons, if_neg (Ne.symm h)]

/-- Reading the byte just written. -/
theorem Memory.read_write_same {m : Memory} (h : m.wf = true) (a : Nat) (x : Byte) : (m.write a x).read a = x := by
  have aux : ∀ (lo : Nat) (m : Memory), Memory.wfFrom lo m = true → (m.write a x).read a = x := by
    intro lo m
    induction m generalizing lo with
    | nil => intro _; exact Memory.read_cell_same rfl
    | cons cell rest ih =>
      intro h
      obtain ⟨k, v⟩ := cell
      simp only [Memory.wfFrom, Bool.and_eq_true, decide_eq_true_eq] at h
      unfold Memory.write
      split
      · exact Memory.read_cell_same (Memory.read_below (lo := k) (by simp [Memory.wfFrom, h]) (by omega))
      · split
        · exact Memory.read_cell_same (Memory.read_below h.2 (by omega))
        · rw [Memory.read_cons, if_neg (by omega), ih _ h.2]
  exact aux 0 m h

/-- A write leaves every other address alone. -/
theorem Memory.read_write_other {m : Memory} {a b : Nat} (x : Byte) (h : b ≠ a) : (m.write a x).read b = m.read b := by
  induction m with
  | nil => exact Memory.read_cell_other h
  | cons cell rest ih =>
    obtain ⟨k, v⟩ := cell
    unfold Memory.write
    split
    · exact Memory.read_cell_other h
    · split
      · rename_i hk
        rw [Memory.read_cell_other h, Memory.read_cons, if_neg (by omega)]
      · rw [Memory.read_cons, Memory.read_cons, ih]

/-- Two memories in canonical form that read the same everywhere are the same data. -/
theorem Memory.ext_read {m m' : Memory} (h : m.wf = true) (h' : m'.wf = true) (hr : ∀ a, m.read a = m'.read a) : m = m' := by
  have aux : ∀ (lo : Nat) (m m' : Memory), Memory.wfFrom lo m = true → Memory.wfFrom lo m' = true →
      (∀ a, m.read a = m'.read a) → m = m' := by
    intro lo m
    induction m generalizing lo with
    | nil =>
      intro m' _ h' hr
      cases m' with
      | nil => rfl
      | cons cell rest =>
        obtain ⟨k, v⟩ := cell
        simp only [Memory.wfFrom, Bool.and_eq_true, decide_eq_true_eq] at h'
        have := hr k
        simp only [Memory.read_nil, Memory.read_cons, if_true] at this
        exact absurd this.symm h'.1.2
    | cons cell rest ih =>
      obtain ⟨k, v⟩ := cell
      intro m' h h' hr
      cases m' with
      | nil =>
        simp only [Memory.wfFrom, Bool.and_eq_true, decide_eq_true_eq] at h
        have := hr k
        simp only [Memory.read_nil, Memory.read_cons, if_true] at this
        exact absurd this h.1.2
      | cons cell' rest' =>
        obtain ⟨k', v'⟩ := cell'
        simp only [Memory.wfFrom, Bool.and_eq_true, decide_eq_true_eq] at h h'
        have hk : k = k' := by
          by_contra hne
          rcases Nat.lt_or_gt_of_ne hne with hlt | hgt
          · have := hr k
            rw [Memory.read_cons, if_pos rfl, Memory.read_cons, if_neg (by omega),
              Memory.read_below h'.2 (by omega)] at this
            exact h.1.2 this
          · have := hr k'
            rw [Memory.read_cons, if_neg (by omega), Memory.read_below h.2 (by omega), Memory.read_cons,
              if_pos rfl] at this
            exact h'.1.2 this.symm
        subst hk
        have hv : v = v' := by simpa using hr k
        subst hv
        have hrest : rest = rest' := ih (k + 1) rest' h.2 h'.2 (by
          intro a
          by_cases hak : k = a
          · rw [Memory.read_below h.2 (by omega), Memory.read_below h'.2 (by omega)]
          · simpa [hak] using hr a)
        rw [hrest]
  exact aux 0 m m' h h' hr

theorem Memory.wfFrom_ofBytesFrom (a : Nat) (xs : List Byte) : Memory.wfFrom a (Memory.ofBytesFrom a xs) = true := by
  induction xs generalizing a with
  | nil => rfl
  | cons x xs ih => exact Memory.wfFrom_cell (ih (a + 1)) (Nat.le_refl a)

/-- The memory of a byte sequence is in canonical form. -/
theorem Memory.wf_ofBytes (xs : List Byte) : (Memory.ofBytes xs).wf = true := Memory.wfFrom_ofBytesFrom 0 xs

theorem Memory.read_ofBytesFrom (a : Nat) (xs : List Byte) (k : Nat) :
    (Memory.ofBytesFrom a xs).read k = if a ≤ k then xs.getD (k - a) Memory.unlisted else Memory.unlisted := by
  induction xs generalizing a with
  | nil => simp [Memory.ofBytesFrom]
  | cons x xs ih =>
    by_cases hk : k = a
    · subst hk
      simp only [Memory.ofBytesFrom, Nat.le_refl, if_true, Nat.sub_self, List.getD_cons_zero]
      exact Memory.read_cell_same (Memory.read_below (Memory.wfFrom_ofBytesFrom _ _) (by omega))
    · rw [Memory.ofBytesFrom, Memory.read_cell_other hk, ih]
      by_cases hle : a ≤ k
      · have : k - a = (k - (a + 1)) + 1 := by omega
        rw [if_pos (by omega), if_pos hle, this, List.getD_cons_succ]
      · rw [if_neg (by omega), if_neg hle]

/-- The bytes of the memory of a byte sequence. -/
theorem Memory.read_ofBytes (xs : List Byte) (k : Nat) : (Memory.ofBytes xs).read k = xs.getD k Memory.unlisted := by
  simp [Memory.ofBytes, Memory.read_ofBytesFrom]

@[simp] theorem Memory.length_bytes (m : Memory) (a n : Nat) : (m.bytes a n).length = n := by simp [Memory.bytes]

/-- Reading back a byte sequence. -/
theorem Memory.bytes_ofBytes (xs : List Byte) : (Memory.ofBytes xs).bytes 0 xs.length = xs := by
  apply List.ext_getElem (by simp)
  intro i h1 h2
  simp [Memory.bytes, Memory.read_ofBytes, List.getD, h2]

/-- Appending a byte to the memory of a byte sequence. -/
theorem Memory.write_ofBytes (xs : List Byte) (x : Byte) :
    (Memory.ofBytes xs).write xs.length x = Memory.ofBytes (xs ++ [x]) := by
  apply Memory.ext_read (Memory.wf_write (Memory.wf_ofBytes _) _ _) (Memory.wf_ofBytes _)
  intro a
  by_cases ha : a = xs.length
  · subst ha
    rw [Memory.read_write_same (Memory.wf_ofBytes _), Memory.read_ofBytes]
    simp [List.getD]
  · rw [Memory.read_write_other _ ha, Memory.read_ofBytes, Memory.read_ofBytes]
    rcases Nat.lt_or_gt_of_ne ha with h | h
    · simp [List.getD, h, List.getElem?_append_left]
    · simp only [List.getD]
      rw [List.getElem?_eq_none (by omega), List.getElem?_eq_none (by simp; omega)]

/-- Writing bytes keeps the canonical form. -/
theorem Memory.wf_writeBytes {m : Memory} (h : m.wf = true) (a : Nat) (xs : List Byte) : (m.writeBytes a xs).wf = true := by
  induction xs generalizing a m with
  | nil => exact h
  | cons x xs ih => exact ih (Memory.wf_write h a x) (a + 1)

/-- Writing bytes leaves every byte outside them as it was. -/
theorem Memory.read_writeBytes_other {m : Memory} {a b : Nat} (xs : List Byte) (h : b < a ∨ a + xs.length ≤ b) :
    (m.writeBytes a xs).read b = m.read b := by
  induction xs generalizing a m with
  | nil => rfl
  | cons x xs ih =>
    rw [List.length_cons] at h
    rw [Memory.writeBytes, ih (by omega), Memory.read_write_other x (by omega)]

/-- A byte read after writing bytes over it is the byte written. -/
theorem Memory.read_writeBytes {m : Memory} (h : m.wf = true) (a : Nat) (xs : List Byte) {k : Nat} (hk : k < xs.length) :
    (m.writeBytes a xs).read (a + k) = xs[k] := by
  induction xs generalizing a m k with
  | nil => cases hk
  | cons x xs ih =>
    rw [Memory.writeBytes]
    cases k with
    | zero => rw [Memory.read_writeBytes_other xs (by omega)]; exact Memory.read_write_same h a x
    | succ k =>
      rw [show a + (k + 1) = a + 1 + k by omega, ih (Memory.wf_write h a x) (a + 1) (Nat.lt_of_succ_lt_succ hk)]; rfl

/-- Reading back bytes just written. -/
theorem Memory.bytes_writeBytes {m : Memory} (h : m.wf = true) (xs : List Byte) : (m.writeBytes 0 xs).bytes 0 xs.length = xs :=
  List.ext_getElem (by simp) fun k hk hk' => by
    simpa [Memory.bytes] using Memory.read_writeBytes h 0 xs hk'

theorem Memory.below_cell {n a : Nat} {x : Byte} {m : Memory} (h : m.below n = true) (ha : a < n) :
    (Memory.cell a x m).below n = true := by
  unfold Memory.cell; split
  · exact h
  · simp only [Memory.below, List.all_cons, Bool.and_eq_true, decide_eq_true_eq] at h ⊢
    exact ⟨ha, h⟩

/-- A write below a bound keeps the bound. -/
theorem Memory.below_write {n a : Nat} {x : Byte} {m : Memory} (h : m.below n = true) (ha : a < n) :
    (m.write a x).below n = true := by
  induction m with
  | nil => exact Memory.below_cell h ha
  | cons cell rest ih =>
    obtain ⟨k, v⟩ := cell
    have h' := h
    simp only [Memory.below, List.all_cons, Bool.and_eq_true, decide_eq_true_eq] at h
    unfold Memory.write
    split
    · exact Memory.below_cell h' ha
    · split
      · exact Memory.below_cell h.2 ha
      · simp only [Memory.below, List.all_cons, Bool.and_eq_true, decide_eq_true_eq]
        exact ⟨h.1, ih h.2⟩

theorem Memory.below_mono {n n' : Nat} {m : Memory} (h : m.below n = true) (hle : n ≤ n') : m.below n' = true := by
  simp only [Memory.below, List.all_eq_true, decide_eq_true_eq] at h ⊢
  exact fun c hc => Nat.lt_of_lt_of_le (h c hc) hle

theorem Memory.below_ofBytesFrom (a : Nat) (xs : List Byte) : (Memory.ofBytesFrom a xs).below (a + xs.length) = true := by
  induction xs generalizing a with
  | nil => rfl
  | cons x xs ih =>
    refine Memory.below_cell (Memory.below_mono (ih (a + 1)) ?_) ?_ <;> simp only [List.length_cons] <;> omega

theorem Memory.below_ofBytes (xs : List Byte) : (Memory.ofBytes xs).below xs.length = true := by
  simpa [Memory.ofBytes] using Memory.below_ofBytesFrom 0 xs

/-- Beyond its bound a memory reads as unlisted. -/
theorem Memory.read_beyond {n a : Nat} {m : Memory} (h : m.below n = true) (ha : n ≤ a) : m.read a = Memory.unlisted := by
  induction m with
  | nil => rfl
  | cons cell rest ih =>
    obtain ⟨k, v⟩ := cell
    simp only [Memory.below, List.all_cons, Bool.and_eq_true, decide_eq_true_eq] at h
    rw [Memory.read_cons, if_neg (by omega), ih h.2]

/-! ### The operations of the engine keep the canonical forms -/

theorem append_memoriesOk {s : State} (h : s.memoriesOk = true) (x : Byte) : (append x s).memoriesOk = true := by
  simp only [State.memoriesOk, Bool.and_eq_true] at h ⊢
  obtain ⟨⟨⟨⟨h1, h2⟩, h3⟩, h4⟩, h5⟩ := h
  exact ⟨⟨⟨⟨h1, Memory.wf_write h2 _ _⟩, h3⟩,
    Memory.below_write (Memory.below_mono h4 (Nat.le_succ _)) (Nat.lt_succ_self _)⟩, h5⟩

theorem winPush_memoriesOk {s : State} (h : s.memoriesOk = true) (x : Byte) : (winPush x s).memoriesOk = true := by
  simp only [State.memoriesOk, Bool.and_eq_true] at h ⊢
  obtain ⟨⟨⟨⟨h1, h2⟩, h3⟩, h4⟩, h5⟩ := h
  exact ⟨⟨⟨⟨h1, h2⟩, Memory.wf_write h3 _ _⟩, h4⟩, Memory.below_write h5 s.wptr.isLt⟩

theorem drawOutput_memoriesOk {s : State} (h : s.memoriesOk = true) : (drawOutput s).memoriesOk = true := by
  simp only [State.memoriesOk, Bool.and_eq_true] at h ⊢
  obtain ⟨⟨⟨⟨h1, _⟩, h3⟩, _⟩, h5⟩ := h
  exact ⟨⟨⟨⟨h1, Memory.wf_ofBytes _⟩, h3⟩, Memory.below_ofBytes _⟩, h5⟩

theorem start_memoriesOk {s : State} (h : s.memoriesOk = true) : (start s).memoriesOk = true := by
  simp only [State.memoriesOk, Bool.and_eq_true] at h ⊢
  obtain ⟨⟨⟨⟨h1, _⟩, h3⟩, _⟩, h5⟩ := h
  exact ⟨⟨⟨⟨h1, rfl⟩, h3⟩, rfl⟩, h5⟩

theorem raise_memoriesOk {s : State} (k : ErrorKind) (h : s.memoriesOk = true) : (raise k s).memoriesOk = true := by
  unfold raise; split
  · exact h
  · exact drawOutput_memoriesOk h

theorem reset_memoriesOk : State.reset.memoriesOk = true := by decide

end Sys2Proof.Machine
end

