-- ==== Sys2Proof/Laws/State.lean ====
section
/-! SUPPORT. What each update of the state does to each field: one lemma per field, so that no proof unfolds a record update. -/

namespace Sys2Proof.Machine

/-! ### `start` -/

@[simp] theorem start_cmd (s : State) : (start s).cmd = s.cmd := rfl
@[simp] theorem start_status (s : State) : (start s).status = statusRunning := rfl
@[simp] theorem start_inLen (s : State) : (start s).inLen = s.inLen := rfl
@[simp] theorem start_outLen (s : State) : (start s).outLen = 0 := rfl
@[simp] theorem start_maxOut (s : State) : (start s).maxOut = s.maxOut := rfl
@[simp] theorem start_result (s : State) : (start s).result = 0#32 := rfl
@[simp] theorem start_inBuf (s : State) : (start s).inBuf = s.inBuf := rfl
@[simp] theorem start_outBuf (s : State) : (start s).outBuf = [] := rfl
@[simp] theorem start_win (s : State) : (start s).win = s.win := rfl
@[simp] theorem start_ipos (s : State) : (start s).ipos = 0 := rfl
@[simp] theorem start_wacc (s : State) : (start s).wacc = 0#8 := rfl
@[simp] theorem start_wcnt (s : State) : (start s).wcnt = 0#3 := rfl
@[simp] theorem start_rpos (s : State) : (start s).rpos = 0 := rfl
@[simp] theorem start_rbit (s : State) : (start s).rbit = 0#3 := rfl
@[simp] theorem start_rbase (s : State) : (start s).rbase = 0 := rfl
@[simp] theorem start_rend (s : State) : (start s).rend = s.inLen := rfl
@[simp] theorem start_a (s : State) : (start s).a = 1#16 := rfl
@[simp] theorem start_b (s : State) : (start s).b = 0#16 := rfl
@[simp] theorem start_wptr (s : State) : (start s).wptr = 0#15 := rfl
@[simp] theorem start_wfill (s : State) : (start s).wfill = 0#16 := rfl
@[simp] theorem start_bfinal (s : State) : (start s).bfinal = s.bfinal := rfl
@[simp] theorem start_btype (s : State) : (start s).btype = s.btype := rfl
@[simp] theorem start_sym (s : State) : (start s).sym = s.sym := rfl
@[simp] theorem start_mlen (s : State) : (start s).mlen = s.mlen := rfl
@[simp] theorem start_mdist (s : State) : (start s).mdist = s.mdist := rfl
@[simp] theorem start_blen (s : State) : (start s).blen = s.blen := rfl
@[simp] theorem start_bestLen (s : State) : (start s).bestLen = s.bestLen := rfl
@[simp] theorem start_bestDist (s : State) : (start s).bestDist = s.bestDist := rfl
@[simp] theorem start_grp (s : State) : (start s).grp = 0#24 := rfl
@[simp] theorem start_gcnt (s : State) : (start s).gcnt = 0#3 := rfl
@[simp] theorem start_micro (s : State) : (start s).micro = s.micro := rfl
@[simp] theorem start_zlib (s : State) : (start s).zlib = s.zlib := rfl
@[simp] theorem start_draws (s : State) : (start s).draws = s.draws := rfl

/-! ### `succeed` -/

@[simp] theorem succeed_cmd (s : State) : (succeed s).cmd = s.cmd := rfl
@[simp] theorem succeed_status (s : State) : (succeed s).status = statusSucceeded := rfl
@[simp] theorem succeed_inLen (s : State) : (succeed s).inLen = s.inLen := rfl
@[simp] theorem succeed_outLen (s : State) : (succeed s).outLen = s.outLen := rfl
@[simp] theorem succeed_maxOut (s : State) : (succeed s).maxOut = s.maxOut := rfl
@[simp] theorem succeed_result (s : State) : (succeed s).result = s.result := rfl
@[simp] theorem succeed_inBuf (s : State) : (succeed s).inBuf = s.inBuf := rfl
@[simp] theorem succeed_outBuf (s : State) : (succeed s).outBuf = s.outBuf := rfl
@[simp] theorem succeed_win (s : State) : (succeed s).win = s.win := rfl
@[simp] theorem succeed_ipos (s : State) : (succeed s).ipos = s.ipos := rfl
@[simp] theorem succeed_wacc (s : State) : (succeed s).wacc = s.wacc := rfl
@[simp] theorem succeed_wcnt (s : State) : (succeed s).wcnt = s.wcnt := rfl
@[simp] theorem succeed_rpos (s : State) : (succeed s).rpos = s.rpos := rfl
@[simp] theorem succeed_rbit (s : State) : (succeed s).rbit = s.rbit := rfl
@[simp] theorem succeed_rbase (s : State) : (succeed s).rbase = s.rbase := rfl
@[simp] theorem succeed_rend (s : State) : (succeed s).rend = s.rend := rfl
@[simp] theorem succeed_a (s : State) : (succeed s).a = s.a := rfl
@[simp] theorem succeed_b (s : State) : (succeed s).b = s.b := rfl
@[simp] theorem succeed_wptr (s : State) : (succeed s).wptr = s.wptr := rfl
@[simp] theorem succeed_wfill (s : State) : (succeed s).wfill = s.wfill := rfl
@[simp] theorem succeed_bfinal (s : State) : (succeed s).bfinal = s.bfinal := rfl
@[simp] theorem succeed_btype (s : State) : (succeed s).btype = s.btype := rfl
@[simp] theorem succeed_sym (s : State) : (succeed s).sym = s.sym := rfl
@[simp] theorem succeed_mlen (s : State) : (succeed s).mlen = s.mlen := rfl
@[simp] theorem succeed_mdist (s : State) : (succeed s).mdist = s.mdist := rfl
@[simp] theorem succeed_blen (s : State) : (succeed s).blen = s.blen := rfl
@[simp] theorem succeed_bestLen (s : State) : (succeed s).bestLen = s.bestLen := rfl
@[simp] theorem succeed_bestDist (s : State) : (succeed s).bestDist = s.bestDist := rfl
@[simp] theorem succeed_grp (s : State) : (succeed s).grp = s.grp := rfl
@[simp] theorem succeed_gcnt (s : State) : (succeed s).gcnt = s.gcnt := rfl
@[simp] theorem succeed_micro (s : State) : (succeed s).micro = s.micro := rfl
@[simp] theorem succeed_zlib (s : State) : (succeed s).zlib = s.zlib := rfl
@[simp] theorem succeed_draws (s : State) : (succeed s).draws = s.draws := rfl

/-! ### `drawOutput` -/

@[simp] theorem drawOutput_cmd (s : State) : (drawOutput s).cmd = s.cmd := rfl
@[simp] theorem drawOutput_status (s : State) : (drawOutput s).status = s.status := rfl
@[simp] theorem drawOutput_inLen (s : State) : (drawOutput s).inLen = s.inLen := rfl
@[simp] theorem drawOutput_outLen (s : State) : (drawOutput s).outLen = (Config.failedOut s.draws).length := rfl
@[simp] theorem drawOutput_maxOut (s : State) : (drawOutput s).maxOut = s.maxOut := rfl
@[simp] theorem drawOutput_result (s : State) : (drawOutput s).result = s.result := rfl
@[simp] theorem drawOutput_inBuf (s : State) : (drawOutput s).inBuf = s.inBuf := rfl
@[simp] theorem drawOutput_outBuf (s : State) : (drawOutput s).outBuf = Memory.ofBytes (Config.failedOut s.draws) := rfl
@[simp] theorem drawOutput_win (s : State) : (drawOutput s).win = s.win := rfl
@[simp] theorem drawOutput_ipos (s : State) : (drawOutput s).ipos = s.ipos := rfl
@[simp] theorem drawOutput_wacc (s : State) : (drawOutput s).wacc = s.wacc := rfl
@[simp] theorem drawOutput_wcnt (s : State) : (drawOutput s).wcnt = s.wcnt := rfl
@[simp] theorem drawOutput_rpos (s : State) : (drawOutput s).rpos = s.rpos := rfl
@[simp] theorem drawOutput_rbit (s : State) : (drawOutput s).rbit = s.rbit := rfl
@[simp] theorem drawOutput_rbase (s : State) : (drawOutput s).rbase = s.rbase := rfl
@[simp] theorem drawOutput_rend (s : State) : (drawOutput s).rend = s.rend := rfl
@[simp] theorem drawOutput_a (s : State) : (drawOutput s).a = s.a := rfl
@[simp] theorem drawOutput_b (s : State) : (drawOutput s).b = s.b := rfl
@[simp] theorem drawOutput_wptr (s : State) : (drawOutput s).wptr = s.wptr := rfl
@[simp] theorem drawOutput_wfill (s : State) : (drawOutput s).wfill = s.wfill := rfl
@[simp] theorem drawOutput_bfinal (s : State) : (drawOutput s).bfinal = s.bfinal := rfl
@[simp] theorem drawOutput_btype (s : State) : (drawOutput s).btype = s.btype := rfl
@[simp] theorem drawOutput_sym (s : State) : (drawOutput s).sym = s.sym := rfl
@[simp] theorem drawOutput_mlen (s : State) : (drawOutput s).mlen = s.mlen := rfl
@[simp] theorem drawOutput_mdist (s : State) : (drawOutput s).mdist = s.mdist := rfl
@[simp] theorem drawOutput_blen (s : State) : (drawOutput s).blen = s.blen := rfl
@[simp] theorem drawOutput_bestLen (s : State) : (drawOutput s).bestLen = s.bestLen := rfl
@[simp] theorem drawOutput_bestDist (s : State) : (drawOutput s).bestDist = s.bestDist := rfl
@[simp] theorem drawOutput_grp (s : State) : (drawOutput s).grp = s.grp := rfl
@[simp] theorem drawOutput_gcnt (s : State) : (drawOutput s).gcnt = s.gcnt := rfl
@[simp] theorem drawOutput_micro (s : State) : (drawOutput s).micro = s.micro := rfl
@[simp] theorem drawOutput_zlib (s : State) : (drawOutput s).zlib = s.zlib := rfl
@[simp] theorem drawOutput_draws (s : State) : (drawOutput s).draws = s.draws + 1 := rfl

/-! ### `append` -/

@[simp] theorem append_cmd (x : Byte) (s : State) : (append x s).cmd = s.cmd := rfl
@[simp] theorem append_status (x : Byte) (s : State) : (append x s).status = s.status := rfl
@[simp] theorem append_inLen (x : Byte) (s : State) : (append x s).inLen = s.inLen := rfl
@[simp] theorem append_outLen (x : Byte) (s : State) : (append x s).outLen = s.outLen + 1 := rfl
@[simp] theorem append_maxOut (x : Byte) (s : State) : (append x s).maxOut = s.maxOut := rfl
@[simp] theorem append_result (x : Byte) (s : State) : (append x s).result = s.result := rfl
@[simp] theorem append_inBuf (x : Byte) (s : State) : (append x s).inBuf = s.inBuf := rfl
@[simp] theorem append_outBuf (x : Byte) (s : State) : (append x s).outBuf = s.outBuf.write s.outLen x := rfl
@[simp] theorem append_win (x : Byte) (s : State) : (append x s).win = s.win := rfl
@[simp] theorem append_ipos (x : Byte) (s : State) : (append x s).ipos = s.ipos := rfl
@[simp] theorem append_wacc (x : Byte) (s : State) : (append x s).wacc = s.wacc := rfl
@[simp] theorem append_wcnt (x : Byte) (s : State) : (append x s).wcnt = s.wcnt := rfl
@[simp] theorem append_rpos (x : Byte) (s : State) : (append x s).rpos = s.rpos := rfl
@[simp] theorem append_rbit (x : Byte) (s : State) : (append x s).rbit = s.rbit := rfl
@[simp] theorem append_rbase (x : Byte) (s : State) : (append x s).rbase = s.rbase := rfl
@[simp] theorem append_rend (x : Byte) (s : State) : (append x s).rend = s.rend := rfl
@[simp] theorem append_a (x : Byte) (s : State) : (append x s).a = s.a := rfl
@[simp] theorem append_b (x : Byte) (s : State) : (append x s).b = s.b := rfl
@[simp] theorem append_wptr (x : Byte) (s : State) : (append x s).wptr = s.wptr := rfl
@[simp] theorem append_wfill (x : Byte) (s : State) : (append x s).wfill = s.wfill := rfl
@[simp] theorem append_bfinal (x : Byte) (s : State) : (append x s).bfinal = s.bfinal := rfl
@[simp] theorem append_btype (x : Byte) (s : State) : (append x s).btype = s.btype := rfl
@[simp] theorem append_sym (x : Byte) (s : State) : (append x s).sym = s.sym := rfl
@[simp] theorem append_mlen (x : Byte) (s : State) : (append x s).mlen = s.mlen := rfl
@[simp] theorem append_mdist (x : Byte) (s : State) : (append x s).mdist = s.mdist := rfl
@[simp] theorem append_blen (x : Byte) (s : State) : (append x s).blen = s.blen := rfl
@[simp] theorem append_bestLen (x : Byte) (s : State) : (append x s).bestLen = s.bestLen := rfl
@[simp] theorem append_bestDist (x : Byte) (s : State) : (append x s).bestDist = s.bestDist := rfl
@[simp] theorem append_grp (x : Byte) (s : State) : (append x s).grp = s.grp := rfl
@[simp] theorem append_gcnt (x : Byte) (s : State) : (append x s).gcnt = s.gcnt := rfl
@[simp] theorem append_micro (x : Byte) (s : State) : (append x s).micro = s.micro := rfl
@[simp] theorem append_zlib (x : Byte) (s : State) : (append x s).zlib = s.zlib := rfl
@[simp] theorem append_draws (x : Byte) (s : State) : (append x s).draws = s.draws := rfl

/-! ### `winPush` -/

@[simp] theorem winPush_cmd (x : Byte) (s : State) : (winPush x s).cmd = s.cmd := rfl
@[simp] theorem winPush_status (x : Byte) (s : State) : (winPush x s).status = s.status := rfl
@[simp] theorem winPush_inLen (x : Byte) (s : State) : (winPush x s).inLen = s.inLen := rfl
@[simp] theorem winPush_outLen (x : Byte) (s : State) : (winPush x s).outLen = s.outLen := rfl
@[simp] theorem winPush_maxOut (x : Byte) (s : State) : (winPush x s).maxOut = s.maxOut := rfl
@[simp] theorem winPush_result (x : Byte) (s : State) : (winPush x s).result = s.result := rfl
@[simp] theorem winPush_inBuf (x : Byte) (s : State) : (winPush x s).inBuf = s.inBuf := rfl
@[simp] theorem winPush_outBuf (x : Byte) (s : State) : (winPush x s).outBuf = s.outBuf := rfl
@[simp] theorem winPush_win (x : Byte) (s : State) : (winPush x s).win = s.win.write s.wptr.toNat x := rfl
@[simp] theorem winPush_ipos (x : Byte) (s : State) : (winPush x s).ipos = s.ipos := rfl
@[simp] theorem winPush_wacc (x : Byte) (s : State) : (winPush x s).wacc = s.wacc := rfl
@[simp] theorem winPush_wcnt (x : Byte) (s : State) : (winPush x s).wcnt = s.wcnt := rfl
@[simp] theorem winPush_rpos (x : Byte) (s : State) : (winPush x s).rpos = s.rpos := rfl
@[simp] theorem winPush_rbit (x : Byte) (s : State) : (winPush x s).rbit = s.rbit := rfl
@[simp] theorem winPush_rbase (x : Byte) (s : State) : (winPush x s).rbase = s.rbase := rfl
@[simp] theorem winPush_rend (x : Byte) (s : State) : (winPush x s).rend = s.rend := rfl
@[simp] theorem winPush_a (x : Byte) (s : State) : (winPush x s).a = s.a := rfl
@[simp] theorem winPush_b (x : Byte) (s : State) : (winPush x s).b = s.b := rfl
@[simp] theorem winPush_wptr (x : Byte) (s : State) : (winPush x s).wptr = s.wptr + 1#15 := rfl
@[simp] theorem winPush_wfill (x : Byte) (s : State) : (winPush x s).wfill = BitVec.ofNat 16 (min (s.wfill.toNat + 1) Rom.windowSize) := rfl
@[simp] theorem winPush_bfinal (x : Byte) (s : State) : (winPush x s).bfinal = s.bfinal := rfl
@[simp] theorem winPush_btype (x : Byte) (s : State) : (winPush x s).btype = s.btype := rfl
@[simp] theorem winPush_sym (x : Byte) (s : State) : (winPush x s).sym = s.sym := rfl
@[simp] theorem winPush_mlen (x : Byte) (s : State) : (winPush x s).mlen = s.mlen := rfl
@[simp] theorem winPush_mdist (x : Byte) (s : State) : (winPush x s).mdist = s.mdist := rfl
@[simp] theorem winPush_blen (x : Byte) (s : State) : (winPush x s).blen = s.blen := rfl
@[simp] theorem winPush_bestLen (x : Byte) (s : State) : (winPush x s).bestLen = s.bestLen := rfl
@[simp] theorem winPush_bestDist (x : Byte) (s : State) : (winPush x s).bestDist = s.bestDist := rfl
@[simp] theorem winPush_grp (x : Byte) (s : State) : (winPush x s).grp = s.grp := rfl
@[simp] theorem winPush_gcnt (x : Byte) (s : State) : (winPush x s).gcnt = s.gcnt := rfl
@[simp] theorem winPush_micro (x : Byte) (s : State) : (winPush x s).micro = s.micro := rfl
@[simp] theorem winPush_zlib (x : Byte) (s : State) : (winPush x s).zlib = s.zlib := rfl
@[simp] theorem winPush_draws (x : Byte) (s : State) : (winPush x s).draws = s.draws := rfl

/-! ### `advanceBits` -/

@[simp] theorem advanceBits_cmd (n : Nat) (s : State) : (advanceBits n s).cmd = s.cmd := rfl
@[simp] theorem advanceBits_status (n : Nat) (s : State) : (advanceBits n s).status = s.status := rfl
@[simp] theorem advanceBits_inLen (n : Nat) (s : State) : (advanceBits n s).inLen = s.inLen := rfl
@[simp] theorem advanceBits_outLen (n : Nat) (s : State) : (advanceBits n s).outLen = s.outLen := rfl
@[simp] theorem advanceBits_maxOut (n : Nat) (s : State) : (advanceBits n s).maxOut = s.maxOut := rfl
@[simp] theorem advanceBits_result (n : Nat) (s : State) : (advanceBits n s).result = s.result := rfl
@[simp] theorem advanceBits_inBuf (n : Nat) (s : State) : (advanceBits n s).inBuf = s.inBuf := rfl
@[simp] theorem advanceBits_outBuf (n : Nat) (s : State) : (advanceBits n s).outBuf = s.outBuf := rfl
@[simp] theorem advanceBits_win (n : Nat) (s : State) : (advanceBits n s).win = s.win := rfl
@[simp] theorem advanceBits_ipos (n : Nat) (s : State) : (advanceBits n s).ipos = s.ipos := rfl
@[simp] theorem advanceBits_wacc (n : Nat) (s : State) : (advanceBits n s).wacc = s.wacc := rfl
@[simp] theorem advanceBits_wcnt (n : Nat) (s : State) : (advanceBits n s).wcnt = s.wcnt := rfl
@[simp] theorem advanceBits_rpos (n : Nat) (s : State) : (advanceBits n s).rpos = s.rpos + (s.rbit.toNat + n) / 8 := rfl
@[simp] theorem advanceBits_rbit (n : Nat) (s : State) : (advanceBits n s).rbit = BitVec.ofNat 3 (s.rbit.toNat + n) := rfl
@[simp] theorem advanceBits_rbase (n : Nat) (s : State) : (advanceBits n s).rbase = s.rbase := rfl
@[simp] theorem advanceBits_rend (n : Nat) (s : State) : (advanceBits n s).rend = s.rend := rfl
@[simp] theorem advanceBits_a (n : Nat) (s : State) : (advanceBits n s).a = s.a := rfl
@[simp] theorem advanceBits_b (n : Nat) (s : State) : (advanceBits n s).b = s.b := rfl
@[simp] theorem advanceBits_wptr (n : Nat) (s : State) : (advanceBits n s).wptr = s.wptr := rfl
@[simp] theorem advanceBits_wfill (n : Nat) (s : State) : (advanceBits n s).wfill = s.wfill := rfl
@[simp] theorem advanceBits_bfinal (n : Nat) (s : State) : (advanceBits n s).bfinal = s.bfinal := rfl
@[simp] theorem advanceBits_btype (n : Nat) (s : State) : (advanceBits n s).btype = s.btype := rfl
@[simp] theorem advanceBits_sym (n : Nat) (s : State) : (advanceBits n s).sym = s.sym := rfl
@[simp] theorem advanceBits_mlen (n : Nat) (s : State) : (advanceBits n s).mlen = s.mlen := rfl
@[simp] theorem advanceBits_mdist (n : Nat) (s : State) : (advanceBits n s).mdist = s.mdist := rfl
@[simp] theorem advanceBits_blen (n : Nat) (s : State) : (advanceBits n s).blen = s.blen := rfl
@[simp] theorem advanceBits_bestLen (n : Nat) (s : State) : (advanceBits n s).bestLen = s.bestLen := rfl
@[simp] theorem advanceBits_bestDist (n : Nat) (s : State) : (advanceBits n s).bestDist = s.bestDist := rfl
@[simp] theorem advanceBits_grp (n : Nat) (s : State) : (advanceBits n s).grp = s.grp := rfl
@[simp] theorem advanceBits_gcnt (n : Nat) (s : State) : (advanceBits n s).gcnt = s.gcnt := rfl
@[simp] theorem advanceBits_micro (n : Nat) (s : State) : (advanceBits n s).micro = s.micro := rfl
@[simp] theorem advanceBits_zlib (n : Nat) (s : State) : (advanceBits n s).zlib = s.zlib := rfl
@[simp] theorem advanceBits_draws (n : Nat) (s : State) : (advanceBits n s).draws = s.draws := rfl

/-! ### `adlerStep` -/

@[simp] theorem adlerStep_cmd (x : Byte) (s : State) : (adlerStep x s).cmd = s.cmd := rfl
@[simp] theorem adlerStep_status (x : Byte) (s : State) : (adlerStep x s).status = s.status := rfl
@[simp] theorem adlerStep_inLen (x : Byte) (s : State) : (adlerStep x s).inLen = s.inLen := rfl
@[simp] theorem adlerStep_outLen (x : Byte) (s : State) : (adlerStep x s).outLen = s.outLen := rfl
@[simp] theorem adlerStep_maxOut (x : Byte) (s : State) : (adlerStep x s).maxOut = s.maxOut := rfl
@[simp] theorem adlerStep_result (x : Byte) (s : State) : (adlerStep x s).result = s.result := rfl
@[simp] theorem adlerStep_inBuf (x : Byte) (s : State) : (adlerStep x s).inBuf = s.inBuf := rfl
@[simp] theorem adlerStep_outBuf (x : Byte) (s : State) : (adlerStep x s).outBuf = s.outBuf := rfl
@[simp] theorem adlerStep_win (x : Byte) (s : State) : (adlerStep x s).win = s.win := rfl
@[simp] theorem adlerStep_ipos (x : Byte) (s : State) : (adlerStep x s).ipos = s.ipos := rfl
@[simp] theorem adlerStep_wacc (x : Byte) (s : State) : (adlerStep x s).wacc = s.wacc := rfl
@[simp] theorem adlerStep_wcnt (x : Byte) (s : State) : (adlerStep x s).wcnt = s.wcnt := rfl
@[simp] theorem adlerStep_rpos (x : Byte) (s : State) : (adlerStep x s).rpos = s.rpos := rfl
@[simp] theorem adlerStep_rbit (x : Byte) (s : State) : (adlerStep x s).rbit = s.rbit := rfl
@[simp] theorem adlerStep_rbase (x : Byte) (s : State) : (adlerStep x s).rbase = s.rbase := rfl
@[simp] theorem adlerStep_rend (x : Byte) (s : State) : (adlerStep x s).rend = s.rend := rfl
@[simp] theorem adlerStep_a (x : Byte) (s : State) : (adlerStep x s).a = BitVec.ofNat 16 ((s.a.toNat + x.toNat) % Rom.adlerMod) := rfl
@[simp] theorem adlerStep_b (x : Byte) (s : State) : (adlerStep x s).b = BitVec.ofNat 16 ((s.b.toNat + (s.a.toNat + x.toNat) % Rom.adlerMod) % Rom.adlerMod) := rfl
@[simp] theorem adlerStep_wptr (x : Byte) (s : State) : (adlerStep x s).wptr = s.wptr := rfl
@[simp] theorem adlerStep_wfill (x : Byte) (s : State) : (adlerStep x s).wfill = s.wfill := rfl
@[simp] theorem adlerStep_bfinal (x : Byte) (s : State) : (adlerStep x s).bfinal = s.bfinal := rfl
@[simp] theorem adlerStep_btype (x : Byte) (s : State) : (adlerStep x s).btype = s.btype := rfl
@[simp] theorem adlerStep_sym (x : Byte) (s : State) : (adlerStep x s).sym = s.sym := rfl
@[simp] theorem adlerStep_mlen (x : Byte) (s : State) : (adlerStep x s).mlen = s.mlen := rfl
@[simp] theorem adlerStep_mdist (x : Byte) (s : State) : (adlerStep x s).mdist = s.mdist := rfl
@[simp] theorem adlerStep_blen (x : Byte) (s : State) : (adlerStep x s).blen = s.blen := rfl
@[simp] theorem adlerStep_bestLen (x : Byte) (s : State) : (adlerStep x s).bestLen = s.bestLen := rfl
@[simp] theorem adlerStep_bestDist (x : Byte) (s : State) : (adlerStep x s).bestDist = s.bestDist := rfl
@[simp] theorem adlerStep_grp (x : Byte) (s : State) : (adlerStep x s).grp = s.grp := rfl
@[simp] theorem adlerStep_gcnt (x : Byte) (s : State) : (adlerStep x s).gcnt = s.gcnt := rfl
@[simp] theorem adlerStep_micro (x : Byte) (s : State) : (adlerStep x s).micro = s.micro := rfl
@[simp] theorem adlerStep_zlib (x : Byte) (s : State) : (adlerStep x s).zlib = s.zlib := rfl
@[simp] theorem adlerStep_draws (x : Byte) (s : State) : (adlerStep x s).draws = s.draws := rfl

/-! ### `latchHeader` -/

@[simp] theorem latchHeader_cmd (f : BitVec 1) (t : BitVec 2) (c : StreamCtx) (s : State) : (latchHeader f t c s).cmd = s.cmd := rfl
@[simp] theorem latchHeader_status (f : BitVec 1) (t : BitVec 2) (c : StreamCtx) (s : State) : (latchHeader f t c s).status = s.status := rfl
@[simp] theorem latchHeader_inLen (f : BitVec 1) (t : BitVec 2) (c : StreamCtx) (s : State) : (latchHeader f t c s).inLen = s.inLen := rfl
@[simp] theorem latchHeader_outLen (f : BitVec 1) (t : BitVec 2) (c : StreamCtx) (s : State) : (latchHeader f t c s).outLen = s.outLen := rfl
@[simp] theorem latchHeader_maxOut (f : BitVec 1) (t : BitVec 2) (c : StreamCtx) (s : State) : (latchHeader f t c s).maxOut = s.maxOut := rfl
@[simp] theorem latchHeader_result (f : BitVec 1) (t : BitVec 2) (c : StreamCtx) (s : State) : (latchHeader f t c s).result = s.result := rfl
@[simp] theorem latchHeader_inBuf (f : BitVec 1) (t : BitVec 2) (c : StreamCtx) (s : State) : (latchHeader f t c s).inBuf = s.inBuf := rfl
@[simp] theorem latchHeader_outBuf (f : BitVec 1) (t : BitVec 2) (c : StreamCtx) (s : State) : (latchHeader f t c s).outBuf = s.outBuf := rfl
@[simp] theorem latchHeader_win (f : BitVec 1) (t : BitVec 2) (c : StreamCtx) (s : State) : (latchHeader f t c s).win = s.win := rfl
@[simp] theorem latchHeader_ipos (f : BitVec 1) (t : BitVec 2) (c : StreamCtx) (s : State) : (latchHeader f t c s).ipos = s.ipos := rfl
@[simp] theorem latchHeader_wacc (f : BitVec 1) (t : BitVec 2) (c : StreamCtx) (s : State) : (latchHeader f t c s).wacc = s.wacc := rfl
@[simp] theorem latchHeader_wcnt (f : BitVec 1) (t : BitVec 2) (c : StreamCtx) (s : State) : (latchHeader f t c s).wcnt = s.wcnt := rfl
@[simp] theorem latchHeader_rpos (f : BitVec 1) (t : BitVec 2) (c : StreamCtx) (s : State) : (latchHeader f t c s).rpos = s.rpos := rfl
@[simp] theorem latchHeader_rbit (f : BitVec 1) (t : BitVec 2) (c : StreamCtx) (s : State) : (latchHeader f t c s).rbit = s.rbit := rfl
@[simp] theorem latchHeader_rbase (f : BitVec 1) (t : BitVec 2) (c : StreamCtx) (s : State) : (latchHeader f t c s).rbase = s.rbase := rfl
@[simp] theorem latchHeader_rend (f : BitVec 1) (t : BitVec 2) (c : StreamCtx) (s : State) : (latchHeader f t c s).rend = s.rend := rfl
@[simp] theorem latchHeader_a (f : BitVec 1) (t : BitVec 2) (c : StreamCtx) (s : State) : (latchHeader f t c s).a = s.a := rfl
@[simp] theorem latchHeader_b (f : BitVec 1) (t : BitVec 2) (c : StreamCtx) (s : State) : (latchHeader f t c s).b = s.b := rfl
@[simp] theorem latchHeader_wptr (f : BitVec 1) (t : BitVec 2) (c : StreamCtx) (s : State) : (latchHeader f t c s).wptr = s.wptr := rfl
@[simp] theorem latchHeader_wfill (f : BitVec 1) (t : BitVec 2) (c : StreamCtx) (s : State) : (latchHeader f t c s).wfill = s.wfill := rfl
@[simp] theorem latchHeader_bfinal (f : BitVec 1) (t : BitVec 2) (c : StreamCtx) (s : State) : (latchHeader f t c s).bfinal = f := rfl
@[simp] theorem latchHeader_btype (f : BitVec 1) (t : BitVec 2) (c : StreamCtx) (s : State) : (latchHeader f t c s).btype = t := rfl
@[simp] theorem latchHeader_sym (f : BitVec 1) (t : BitVec 2) (c : StreamCtx) (s : State) : (latchHeader f t c s).sym = s.sym := rfl
@[simp] theorem latchHeader_mlen (f : BitVec 1) (t : BitVec 2) (c : StreamCtx) (s : State) : (latchHeader f t c s).mlen = s.mlen := rfl
@[simp] theorem latchHeader_mdist (f : BitVec 1) (t : BitVec 2) (c : StreamCtx) (s : State) : (latchHeader f t c s).mdist = s.mdist := rfl
@[simp] theorem latchHeader_blen (f : BitVec 1) (t : BitVec 2) (c : StreamCtx) (s : State) : (latchHeader f t c s).blen = s.blen := rfl
@[simp] theorem latchHeader_bestLen (f : BitVec 1) (t : BitVec 2) (c : StreamCtx) (s : State) : (latchHeader f t c s).bestLen = s.bestLen := rfl
@[simp] theorem latchHeader_bestDist (f : BitVec 1) (t : BitVec 2) (c : StreamCtx) (s : State) : (latchHeader f t c s).bestDist = s.bestDist := rfl
@[simp] theorem latchHeader_grp (f : BitVec 1) (t : BitVec 2) (c : StreamCtx) (s : State) : (latchHeader f t c s).grp = s.grp := rfl
@[simp] theorem latchHeader_gcnt (f : BitVec 1) (t : BitVec 2) (c : StreamCtx) (s : State) : (latchHeader f t c s).gcnt = s.gcnt := rfl
@[simp] theorem latchHeader_micro (f : BitVec 1) (t : BitVec 2) (c : StreamCtx) (s : State) : (latchHeader f t c s).micro = c := rfl
@[simp] theorem latchHeader_zlib (f : BitVec 1) (t : BitVec 2) (c : StreamCtx) (s : State) : (latchHeader f t c s).zlib = s.zlib := rfl
@[simp] theorem latchHeader_draws (f : BitVec 1) (t : BitVec 2) (c : StreamCtx) (s : State) : (latchHeader f t c s).draws = s.draws := rfl

/-! ### `lengthElement` -/

@[simp] theorem lengthElement_cmd (i e : Nat) (s : State) : (lengthElement i e s).cmd = s.cmd := rfl
@[simp] theorem lengthElement_status (i e : Nat) (s : State) : (lengthElement i e s).status = s.status := rfl
@[simp] theorem lengthElement_inLen (i e : Nat) (s : State) : (lengthElement i e s).inLen = s.inLen := rfl
@[simp] theorem lengthElement_outLen (i e : Nat) (s : State) : (lengthElement i e s).outLen = s.outLen := rfl
@[simp] theorem lengthElement_maxOut (i e : Nat) (s : State) : (lengthElement i e s).maxOut = s.maxOut := rfl
@[simp] theorem lengthElement_result (i e : Nat) (s : State) : (lengthElement i e s).result = s.result := rfl
@[simp] theorem lengthElement_inBuf (i e : Nat) (s : State) : (lengthElement i e s).inBuf = s.inBuf := rfl
@[simp] theorem lengthElement_outBuf (i e : Nat) (s : State) : (lengthElement i e s).outBuf = s.outBuf := rfl
@[simp] theorem lengthElement_win (i e : Nat) (s : State) : (lengthElement i e s).win = s.win := rfl
@[simp] theorem lengthElement_ipos (i e : Nat) (s : State) : (lengthElement i e s).ipos = s.ipos := rfl
@[simp] theorem lengthElement_wacc (i e : Nat) (s : State) : (lengthElement i e s).wacc = s.wacc := rfl
@[simp] theorem lengthElement_wcnt (i e : Nat) (s : State) : (lengthElement i e s).wcnt = s.wcnt := rfl
@[simp] theorem lengthElement_rpos (i e : Nat) (s : State) : (lengthElement i e s).rpos = s.rpos := rfl
@[simp] theorem lengthElement_rbit (i e : Nat) (s : State) : (lengthElement i e s).rbit = s.rbit := rfl
@[simp] theorem lengthElement_rbase (i e : Nat) (s : State) : (lengthElement i e s).rbase = s.rbase := rfl
@[simp] theorem lengthElement_rend (i e : Nat) (s : State) : (lengthElement i e s).rend = s.rend := rfl
@[simp] theorem lengthElement_a (i e : Nat) (s : State) : (lengthElement i e s).a = s.a := rfl
@[simp] theorem lengthElement_b (i e : Nat) (s : State) : (lengthElement i e s).b = s.b := rfl
@[simp] theorem lengthElement_wptr (i e : Nat) (s : State) : (lengthElement i e s).wptr = s.wptr := rfl
@[simp] theorem lengthElement_wfill (i e : Nat) (s : State) : (lengthElement i e s).wfill = s.wfill := rfl
@[simp] theorem lengthElement_bfinal (i e : Nat) (s : State) : (lengthElement i e s).bfinal = s.bfinal := rfl
@[simp] theorem lengthElement_btype (i e : Nat) (s : State) : (lengthElement i e s).btype = s.btype := rfl
@[simp] theorem lengthElement_sym (i e : Nat) (s : State) : (lengthElement i e s).sym = BitVec.ofNat 9 (257 + i) := rfl
@[simp] theorem lengthElement_mlen (i e : Nat) (s : State) : (lengthElement i e s).mlen = BitVec.ofNat 9 (lengthOperand i e) := rfl
@[simp] theorem lengthElement_mdist (i e : Nat) (s : State) : (lengthElement i e s).mdist = s.mdist := rfl
@[simp] theorem lengthElement_blen (i e : Nat) (s : State) : (lengthElement i e s).blen = s.blen := rfl
@[simp] theorem lengthElement_bestLen (i e : Nat) (s : State) : (lengthElement i e s).bestLen = s.bestLen := rfl
@[simp] theorem lengthElement_bestDist (i e : Nat) (s : State) : (lengthElement i e s).bestDist = s.bestDist := rfl
@[simp] theorem lengthElement_grp (i e : Nat) (s : State) : (lengthElement i e s).grp = s.grp := rfl
@[simp] theorem lengthElement_gcnt (i e : Nat) (s : State) : (lengthElement i e s).gcnt = s.gcnt := rfl
@[simp] theorem lengthElement_micro (i e : Nat) (s : State) : (lengthElement i e s).micro = .distance := rfl
@[simp] theorem lengthElement_zlib (i e : Nat) (s : State) : (lengthElement i e s).zlib = s.zlib := rfl
@[simp] theorem lengthElement_draws (i e : Nat) (s : State) : (lengthElement i e s).draws = s.draws := rfl

/-! ### `atFirstBlock` -/

@[simp] theorem atFirstBlock_cmd (z : Bool) (s : State) : (atFirstBlock z s).cmd = s.cmd := rfl
@[simp] theorem atFirstBlock_status (z : Bool) (s : State) : (atFirstBlock z s).status = s.status := rfl
@[simp] theorem atFirstBlock_inLen (z : Bool) (s : State) : (atFirstBlock z s).inLen = s.inLen := rfl
@[simp] theorem atFirstBlock_outLen (z : Bool) (s : State) : (atFirstBlock z s).outLen = s.outLen := rfl
@[simp] theorem atFirstBlock_maxOut (z : Bool) (s : State) : (atFirstBlock z s).maxOut = s.maxOut := rfl
@[simp] theorem atFirstBlock_result (z : Bool) (s : State) : (atFirstBlock z s).result = s.result := rfl
@[simp] theorem atFirstBlock_inBuf (z : Bool) (s : State) : (atFirstBlock z s).inBuf = s.inBuf := rfl
@[simp] theorem atFirstBlock_outBuf (z : Bool) (s : State) : (atFirstBlock z s).outBuf = s.outBuf := rfl
@[simp] theorem atFirstBlock_win (z : Bool) (s : State) : (atFirstBlock z s).win = s.win := rfl
@[simp] theorem atFirstBlock_ipos (z : Bool) (s : State) : (atFirstBlock z s).ipos = s.ipos := rfl
@[simp] theorem atFirstBlock_wacc (z : Bool) (s : State) : (atFirstBlock z s).wacc = s.wacc := rfl
@[simp] theorem atFirstBlock_wcnt (z : Bool) (s : State) : (atFirstBlock z s).wcnt = s.wcnt := rfl
@[simp] theorem atFirstBlock_rpos (z : Bool) (s : State) : (atFirstBlock z s).rpos = s.rpos := rfl
@[simp] theorem atFirstBlock_rbit (z : Bool) (s : State) : (atFirstBlock z s).rbit = s.rbit := rfl
@[simp] theorem atFirstBlock_rbase (z : Bool) (s : State) : (atFirstBlock z s).rbase = s.rbase := rfl
@[simp] theorem atFirstBlock_rend (z : Bool) (s : State) : (atFirstBlock z s).rend = s.rend := rfl
@[simp] theorem atFirstBlock_a (z : Bool) (s : State) : (atFirstBlock z s).a = s.a := rfl
@[simp] theorem atFirstBlock_b (z : Bool) (s : State) : (atFirstBlock z s).b = s.b := rfl
@[simp] theorem atFirstBlock_wptr (z : Bool) (s : State) : (atFirstBlock z s).wptr = s.wptr := rfl
@[simp] theorem atFirstBlock_wfill (z : Bool) (s : State) : (atFirstBlock z s).wfill = s.wfill := rfl
@[simp] theorem atFirstBlock_bfinal (z : Bool) (s : State) : (atFirstBlock z s).bfinal = s.bfinal := rfl
@[simp] theorem atFirstBlock_btype (z : Bool) (s : State) : (atFirstBlock z s).btype = s.btype := rfl
@[simp] theorem atFirstBlock_sym (z : Bool) (s : State) : (atFirstBlock z s).sym = s.sym := rfl
@[simp] theorem atFirstBlock_mlen (z : Bool) (s : State) : (atFirstBlock z s).mlen = s.mlen := rfl
@[simp] theorem atFirstBlock_mdist (z : Bool) (s : State) : (atFirstBlock z s).mdist = s.mdist := rfl
@[simp] theorem atFirstBlock_blen (z : Bool) (s : State) : (atFirstBlock z s).blen = s.blen := rfl
@[simp] theorem atFirstBlock_bestLen (z : Bool) (s : State) : (atFirstBlock z s).bestLen = s.bestLen := rfl
@[simp] theorem atFirstBlock_bestDist (z : Bool) (s : State) : (atFirstBlock z s).bestDist = s.bestDist := rfl
@[simp] theorem atFirstBlock_grp (z : Bool) (s : State) : (atFirstBlock z s).grp = s.grp := rfl
@[simp] theorem atFirstBlock_gcnt (z : Bool) (s : State) : (atFirstBlock z s).gcnt = s.gcnt := rfl
@[simp] theorem atFirstBlock_micro (z : Bool) (s : State) : (atFirstBlock z s).micro = .blockHeader := rfl
@[simp] theorem atFirstBlock_zlib (z : Bool) (s : State) : (atFirstBlock z s).zlib = z := rfl
@[simp] theorem atFirstBlock_draws (z : Bool) (s : State) : (atFirstBlock z s).draws = s.draws := rfl

/-! ### `STATUS` of the three phases of a command -/

@[simp] theorem start_busy (s : State) : (start s).busy = true := by
  simp [State.busy]; decide
@[simp] theorem start_done (s : State) : (start s).done = false := by
  simp [State.done]; decide
@[simp] theorem start_ok (s : State) : (start s).ok = false := by
  simp [State.ok]; decide
@[simp] theorem succeed_busy (s : State) : (succeed s).busy = false := by
  simp [State.busy]; decide
@[simp] theorem succeed_done (s : State) : (succeed s).done = true := by
  simp [State.done]; decide
@[simp] theorem succeed_ok (s : State) : (succeed s).ok = true := by
  simp [State.ok]; decide

@[simp] theorem raise_status (k : ErrorKind) (s : State) : (raise k s).status = statusFailed k := by
  unfold raise; split <;> rfl

@[simp] theorem raise_busy (k : ErrorKind) (s : State) : (raise k s).busy = false := by
  simp only [State.busy, raise_status]; cases k <;> decide

@[simp] theorem raise_done (k : ErrorKind) (s : State) : (raise k s).done = true := by
  simp only [State.done, raise_status]; cases k <;> decide

@[simp] theorem raise_ok (k : ErrorKind) (s : State) : (raise k s).ok = false := by
  simp only [State.ok, raise_status]; cases k <;> decide

@[simp] theorem raise_err (k : ErrorKind) (s : State) : (raise k s).err = k.code := by
  simp only [State.err, raise_status]; cases k <;> decide

/-! ### `raise` leaves everything but `STATUS`, `OUT` and the counter of free values -/

@[simp] theorem raise_cmd (k : ErrorKind) (s : State) : (raise k s).cmd = s.cmd := by
  unfold raise; split <;> rfl
@[simp] theorem raise_inLen (k : ErrorKind) (s : State) : (raise k s).inLen = s.inLen := by
  unfold raise; split <;> rfl
@[simp] theorem raise_maxOut (k : ErrorKind) (s : State) : (raise k s).maxOut = s.maxOut := by
  unfold raise; split <;> rfl
@[simp] theorem raise_result (k : ErrorKind) (s : State) : (raise k s).result = s.result := by
  unfold raise; split <;> rfl
@[simp] theorem raise_inBuf (k : ErrorKind) (s : State) : (raise k s).inBuf = s.inBuf := by
  unfold raise; split <;> rfl
@[simp] theorem raise_win (k : ErrorKind) (s : State) : (raise k s).win = s.win := by
  unfold raise; split <;> rfl
@[simp] theorem raise_ipos (k : ErrorKind) (s : State) : (raise k s).ipos = s.ipos := by
  unfold raise; split <;> rfl
@[simp] theorem raise_wacc (k : ErrorKind) (s : State) : (raise k s).wacc = s.wacc := by
  unfold raise; split <;> rfl
@[simp] theorem raise_wcnt (k : ErrorKind) (s : State) : (raise k s).wcnt = s.wcnt := by
  unfold raise; split <;> rfl
@[simp] theorem raise_rpos (k : ErrorKind) (s : State) : (raise k s).rpos = s.rpos := by
  unfold raise; split <;> rfl
@[simp] theorem raise_rbit (k : ErrorKind) (s : State) : (raise k s).rbit = s.rbit := by
  unfold raise; split <;> rfl
@[simp] theorem raise_rbase (k : ErrorKind) (s : State) : (raise k s).rbase = s.rbase := by
  unfold raise; split <;> rfl
@[simp] theorem raise_rend (k : ErrorKind) (s : State) : (raise k s).rend = s.rend := by
  unfold raise; split <;> rfl
@[simp] theorem raise_a (k : ErrorKind) (s : State) : (raise k s).a = s.a := by
  unfold raise; split <;> rfl
@[simp] theorem raise_b (k : ErrorKind) (s : State) : (raise k s).b = s.b := by
  unfold raise; split <;> rfl
@[simp] theorem raise_wptr (k : ErrorKind) (s : State) : (raise k s).wptr = s.wptr := by
  unfold raise; split <;> rfl
@[simp] theorem raise_wfill (k : ErrorKind) (s : State) : (raise k s).wfill = s.wfill := by
  unfold raise; split <;> rfl
@[simp] theorem raise_bfinal (k : ErrorKind) (s : State) : (raise k s).bfinal = s.bfinal := by
  unfold raise; split <;> rfl
@[simp] theorem raise_btype (k : ErrorKind) (s : State) : (raise k s).btype = s.btype := by
  unfold raise; split <;> rfl
@[simp] theorem raise_sym (k : ErrorKind) (s : State) : (raise k s).sym = s.sym := by
  unfold raise; split <;> rfl
@[simp] theorem raise_mlen (k : ErrorKind) (s : State) : (raise k s).mlen = s.mlen := by
  unfold raise; split <;> rfl
@[simp] theorem raise_mdist (k : ErrorKind) (s : State) : (raise k s).mdist = s.mdist := by
  unfold raise; split <;> rfl
@[simp] theorem raise_blen (k : ErrorKind) (s : State) : (raise k s).blen = s.blen := by
  unfold raise; split <;> rfl
@[simp] theorem raise_bestLen (k : ErrorKind) (s : State) : (raise k s).bestLen = s.bestLen := by
  unfold raise; split <;> rfl
@[simp] theorem raise_bestDist (k : ErrorKind) (s : State) : (raise k s).bestDist = s.bestDist := by
  unfold raise; split <;> rfl
@[simp] theorem raise_grp (k : ErrorKind) (s : State) : (raise k s).grp = s.grp := by
  unfold raise; split <;> rfl
@[simp] theorem raise_gcnt (k : ErrorKind) (s : State) : (raise k s).gcnt = s.gcnt := by
  unfold raise; split <;> rfl
@[simp] theorem raise_micro (k : ErrorKind) (s : State) : (raise k s).micro = s.micro := by
  unfold raise; split <;> rfl
@[simp] theorem raise_zlib (k : ErrorKind) (s : State) : (raise k s).zlib = s.zlib := by
  unfold raise; split <;> rfl

end Sys2Proof.Machine
end

