-- ==== Sys2Proof/Laws/Ops.lean ====
section
/-! SUPPORT. What each shared operation can do, said once, for proofs to cite instead of unfolding it. -/

namespace Sys2Proof.Machine

/-! ### Appending -/

@[simp] theorem appendAll_nil (s : State) : appendAll [] s = s := rfl

@[simp] theorem appendAll_cons (x : Byte) (xs : List Byte) (s : State) :
    appendAll (x :: xs) s = appendAll xs (append x s) := rfl

theorem appendAll_append (xs ys : List Byte) (s : State) : appendAll (xs ++ ys) s = appendAll ys (appendAll xs s) := by
  induction xs generalizing s with
  | nil => rfl
  | cons x xs ih => exact ih (append x s)

/-- `appendAll` writes `OUT` and `OUT_LEN` and nothing else. -/
theorem appendAll_frame (xs : List Byte) (s : State) :
    appendAll xs s = { s with outBuf := (appendAll xs s).outBuf, outLen := s.outLen + xs.length } := by
  induction xs generalizing s with
  | nil => rfl
  | cons x xs ih =>
    rw [appendAll_cons, ih (append x s)]
    simp [append, Nat.add_assoc, Nat.add_comm 1]

/-- Appending to an `OUT` that holds `ys` leaves `ys ++ xs`. -/
theorem appendAll_outBuf {s : State} {ys : List Byte} (hb : s.outBuf = Memory.ofBytes ys) (hl : s.outLen = ys.length)
    (xs : List Byte) : (appendAll xs s).outBuf = Memory.ofBytes (ys ++ xs) := by
  induction xs generalizing s ys with
  | nil => simpa using hb
  | cons x xs ih =>
    have := ih (s := append x s) (ys := ys ++ [x]) (by simp [append, hb, hl, Memory.write_ofBytes]) (by simp [append, hl])
    simpa using this

/-! ### Failures -/

/-- `raise` writes `STATUS`, and `OUT` where the spec leaves it open, and nothing else. -/
theorem raise_frame (k : ErrorKind) (s : State) :
    raise k s =
      { s with
        status := statusFailed k, outBuf := (raise k s).outBuf, outLen := (raise k s).outLen,
        draws := (raise k s).draws } := by
  unfold raise; split <;> rfl

/-- A failure whose `OUT` the spec gives leaves it alone. -/
theorem raise_keeps {k : ErrorKind} (h : k.keepsOut = true) (s : State) : raise k s = { s with status := statusFailed k } := by
  simp [raise, h]

/-- Any other failure leaves a free value in `OUT`. -/
theorem raise_draws {k : ErrorKind} (h : k.keepsOut = false) (s : State) :
    raise k s = { drawOutput s with status := statusFailed k } := by
  simp [raise, h]

/-! ### The decoder's output -/

/-- `Put` with room for a byte. -/
theorem put_room {s : State} (h : s.maxOut = 0 ∨ s.outLen < s.maxOut) (x : Byte) :
    put x s = .ok (winPush x (append x s)) := by
  unfold put; rw [if_neg]; omega

/-- `Put` at the bound. -/
theorem put_full {s : State} (h0 : s.maxOut ≠ 0) (h : s.maxOut ≤ s.outLen) (x : Byte) :
    put x s = .error (raise .outputLimitExceeded s) := by
  unfold put; rw [if_pos ⟨h0, h⟩]

/-- Everything `Put` can do. -/
theorem put_cases (x : Byte) (s : State) :
    ((s.maxOut = 0 ∨ s.outLen < s.maxOut) ∧ put x s = .ok (winPush x (append x s))) ∨
      ((s.maxOut ≠ 0 ∧ s.maxOut ≤ s.outLen) ∧ put x s = .error (raise .outputLimitExceeded s)) := by
  by_cases h : s.maxOut ≠ 0 ∧ s.maxOut ≤ s.outLen
  · exact .inr ⟨h, put_full h.1 h.2 x⟩
  · exact .inl ⟨by omega, put_room (by omega) x⟩

@[simp] theorem putAll_nil (s : State) : putAll [] s = .ok s := rfl

theorem putAll_cons (x : Byte) (xs : List Byte) (s : State) :
    putAll (x :: xs) s = (match put x s with | .ok s' => putAll xs s' | .error s' => .error s') := rfl

@[simp] theorem copyBytes_zero (d : Nat) (s : State) : copyBytes 0 d s = .ok s := rfl

theorem copyBytes_succ (n d : Nat) (s : State) :
    copyBytes (n + 1) d s =
      (match put (s.outBuf.read (s.outLen - d)) s with | .ok s' => copyBytes n d s' | .error s' => .error s') := rfl

/-- What a decoder may change while it produces bytes: `OUT`, `OUT_LEN` and the window. -/
def onlyOutput (s t : State) : Prop :=
  t = { s with outBuf := t.outBuf, outLen := t.outLen, win := t.win, wptr := t.wptr, wfill := t.wfill }

theorem onlyOutput_refl (s : State) : onlyOutput s s := rfl

theorem onlyOutput_trans {s t u : State} (h : onlyOutput s t) (h' : onlyOutput t u) : onlyOutput s u := by
  unfold onlyOutput at *; rw [h'] ; rw [h]

theorem onlyOutput_put (x : Byte) (s : State) : onlyOutput s (winPush x (append x s)) := rfl

/-- `putAll` that goes on has changed `OUT` and the window, by as many bytes as it was given. -/
theorem putAll_ok {xs : List Byte} {s t : State} (h : putAll xs s = .ok t) :
    onlyOutput s t ∧ t.outLen = s.outLen + xs.length := by
  induction xs generalizing s with
  | nil => cases h; exact ⟨rfl, rfl⟩
  | cons x xs ih =>
    rw [putAll_cons] at h
    rcases put_cases x s with ⟨_, hp⟩ | ⟨_, hp⟩ <;> rw [hp] at h
    · obtain ⟨h1, h2⟩ := ih h
      refine ⟨onlyOutput_trans (onlyOutput_put x s) h1, ?_⟩
      simp only [h2, winPush_outLen, append_outLen, List.length_cons]; omega
    · cases h

/-- `copyBytes` that goes on has changed `OUT` and the window, by `n` bytes. -/
theorem copyBytes_ok {n d : Nat} {s t : State} (h : copyBytes n d s = .ok t) :
    onlyOutput s t ∧ t.outLen = s.outLen + n := by
  induction n generalizing s with
  | zero => cases h; exact ⟨rfl, rfl⟩
  | succ n ih =>
    rw [copyBytes_succ] at h
    rcases put_cases (s.outBuf.read (s.outLen - d)) s with ⟨_, hp⟩ | ⟨_, hp⟩ <;> rw [hp] at h
    · obtain ⟨h1, h2⟩ := ih h
      refine ⟨onlyOutput_trans (onlyOutput_put _ s) h1, ?_⟩
      simp only [h2, winPush_outLen, append_outLen]; omega
    · cases h

/-- `putAll` that stops has met the output bound. -/
theorem putAll_error {xs : List Byte} {s t : State} (h : putAll xs s = .error t) :
    ∃ u, onlyOutput s u ∧ u.maxOut ≠ 0 ∧ u.maxOut ≤ u.outLen ∧ t = raise .outputLimitExceeded u := by
  induction xs generalizing s with
  | nil => cases h
  | cons x xs ih =>
    rw [putAll_cons] at h
    rcases put_cases x s with ⟨_, hp⟩ | ⟨hc, hp⟩ <;> rw [hp] at h
    · obtain ⟨u, h1, h2⟩ := ih h
      exact ⟨u, onlyOutput_trans (onlyOutput_put x s) h1, h2⟩
    · cases h; exact ⟨s, rfl, hc.1, hc.2, rfl⟩

/-- `copyBytes` that stops has met the output bound. -/
theorem copyBytes_error {n d : Nat} {s t : State} (h : copyBytes n d s = .error t) :
    ∃ u, onlyOutput s u ∧ u.maxOut ≠ 0 ∧ u.maxOut ≤ u.outLen ∧ t = raise .outputLimitExceeded u := by
  induction n generalizing s with
  | zero => cases h
  | succ n ih =>
    rw [copyBytes_succ] at h
    rcases put_cases (s.outBuf.read (s.outLen - d)) s with ⟨_, hp⟩ | ⟨hc, hp⟩ <;> rw [hp] at h
    · obtain ⟨u, h1, h2⟩ := ih h
      exact ⟨u, onlyOutput_trans (onlyOutput_put _ s) h1, h2⟩
    · cases h; exact ⟨s, rfl, hc.1, hc.2, rfl⟩

/-! ### The bit writer -/

/-- The bit writer writes `OUT`, `OUT_LEN`, `wacc` and `wcnt` and nothing else. -/
def onlyWriter (s t : State) : Prop :=
  t = { s with outBuf := t.outBuf, outLen := t.outLen, wacc := t.wacc, wcnt := t.wcnt }

theorem onlyWriter_refl (s : State) : onlyWriter s s := rfl

theorem onlyWriter_trans {s t u : State} (h : onlyWriter s t) (h' : onlyWriter t u) : onlyWriter s u := by
  unfold onlyWriter at *; rw [h']; rw [h]

theorem onlyWriter_writeBit (b : Bool) (s : State) : onlyWriter s (writeBit b s) := by
  unfold writeBit; simp only; split <;> rfl

theorem onlyWriter_writeBitList (bs : List Bool) (s : State) : onlyWriter s (writeBitList bs s) := by
  induction bs generalizing s with
  | nil => rfl
  | cons b bs ih => exact onlyWriter_trans (onlyWriter_writeBit b s) (ih (writeBit b s))

theorem writeBitList_append (xs ys : List Bool) (s : State) :
    writeBitList (xs ++ ys) s = writeBitList ys (writeBitList xs s) := by
  induction xs generalizing s with
  | nil => rfl
  | cons b bs ih => exact ih (writeBit b s)

theorem onlyWriter_flush (s : State) : onlyWriter s (flush s) := by
  unfold flush; split <;> rfl

/-! ### The checksum -/

/-- A checksum pass writes `a` and `b` and nothing else. -/
theorem adlerSteps_frame (xs : List Byte) (s : State) :
    adlerSteps xs s = { s with a := (adlerSteps xs s).a, b := (adlerSteps xs s).b } := by
  induction xs generalizing s with
  | nil => rfl
  | cons x xs ih =>
    rw [show adlerSteps (x :: xs) s = adlerSteps xs (adlerStep x s) from rfl, ih (adlerStep x s)]
    rfl

theorem adlerPass_frame (xs : List Byte) (s : State) :
    adlerPass xs s = { s with a := (adlerPass xs s).a, b := (adlerPass xs s).b } := by
  rw [adlerPass, adlerSteps_frame]

/-! ### The bits of a stream -/

@[simp] theorem length_lsbBits (n v : Nat) : (lsbBits n v).length = n := by
  induction n generalizing v with
  | zero => rfl
  | succ n ih => simp [lsbBits, ih]

@[simp] theorem length_msbBits (n v : Nat) : (msbBits n v).length = n := by
  induction n with
  | zero => rfl
  | succ n ih => simp [msbBits, ih]

@[simp] theorem length_byteBits (x : Byte) : (byteBits x).length = 8 := length_lsbBits 8 _

@[simp] theorem length_bytesBits (xs : List Byte) : (bytesBits xs).length = 8 * xs.length := by
  induction xs with
  | nil => rfl
  | cons x xs ih => simp [bytesBits, List.flatMap_cons] at ih ⊢; omega

/-- The number of bits the reader has not read (R134). -/
theorem length_readerBits (s : State) : (readerBits s).length = bitsLeft s := by
  simp [readerBits, bitsLeft]

/-! ### Elements and their meanings -/

/-- No stream element is a command word: the decoder is never handed one (log 15). -/
theorem lengthInstr_ctx (i e : Nat) : (lengthInstr i e).ctx = some .litLen := by
  unfold lengthInstr; split <;> rfl

theorem distanceInstr_ctx (j e : Nat) : (distanceInstr j e).ctx = some .distance := by
  unfold distanceInstr; split <;> rfl

theorem printInstr_ctx (c : Byte) : (printInstr c).ctx = some .print := by
  unfold printInstr; repeat' split
  all_goals rfl

theorem decodeBlockHeader_ctx {bs rest : List Bool} {i : Instr} (h : decodeBlockHeader bs = .ok (i, rest)) :
    i.ctx = some .blockHeader := by
  unfold decodeBlockHeader at h
  split at h
  · cases h
  · split at h
    · cases h
    · injection h with h; injection h with hi _; subst hi
      repeat' split
      all_goals rfl

theorem decodeStoredBody_ctx {p : Nat} {bs rest : List Bool} {i : Instr} (h : decodeStoredBody p bs = .ok (i, rest)) :
    i.ctx = some .storedBody := by
  unfold decodeStoredBody at h
  dsimp only at h
  split at h
  · cases h
  · split at h
    · cases h
    · injection h with h; injection h with hi _; subst hi; rfl

theorem decodeLitLenElement_ctx {bs rest : List Bool} {i : Instr} (h : decodeLitLenElement bs = .ok (i, rest)) :
    i.ctx = some .litLen := by
  unfold decodeLitLenElement at h
  cases hd : decodeLitLen bs with
  | none => rw [hd] at h; cases h
  | some p =>
    obtain ⟨sym, r⟩ := p
    rw [hd] at h
    dsimp only at h
    by_cases h1 : sym ≤ 143
    · rw [if_pos h1] at h; injection h with h; injection h with hi _; subst hi; rfl
    rw [if_neg h1] at h
    by_cases h2 : sym ≤ 255
    · rw [if_pos h2] at h; injection h with h; injection h with hi _; subst hi; rfl
    rw [if_neg h2] at h
    by_cases h3 : sym = 256
    · rw [if_pos h3] at h; injection h with h; injection h with hi _; subst hi; rfl
    rw [if_neg h3] at h
    by_cases h4 : sym ≤ 285
    · rw [if_pos h4] at h
      generalize takeLsb (Rom.lenExtra (sym - 257)) r = o at h
      cases o with
      | none => cases h
      | some q =>
        obtain ⟨e, r'⟩ := q
        dsimp only at h
        rw [Except.ok.injEq, Prod.mk.injEq] at h
        rw [← h.1]; exact lengthInstr_ctx _ _
    rw [if_neg h4] at h
    by_cases h5 : sym = 286
    · rw [if_pos h5] at h; injection h with h; injection h with hi _; subst hi; rfl
    · rw [if_neg h5] at h; injection h with h; injection h with hi _; subst hi; rfl

theorem decodeDistanceElement_ctx {bs rest : List Bool} {i : Instr} (h : decodeDistanceElement bs = .ok (i, rest)) :
    i.ctx = some .distance := by
  unfold decodeDistanceElement at h
  split at h
  · cases h
  · split at h
    · cases h
    · injection h with h; injection h with hi _; subst hi; exact distanceInstr_ctx _ _

theorem decodeEscape_ctx {bs rest : List Bool} {i : Instr} (h : decodeEscape bs = .ok (i, rest)) :
    i.ctx = some .escape := by
  unfold decodeEscape at h
  split at h
  · split at h <;> cases h
  · split at h
    · injection h with h; injection h with hi _; subst hi; rfl
    · split at h
      · injection h with h; injection h with hi _; subst hi; rfl
      · injection h with h; injection h with hi _; subst hi
        repeat' split
        all_goals rfl

theorem decodePrintChar_ctx {bs rest : List Bool} {i : Instr} (h : decodePrintChar bs = .ok (i, rest)) :
    i.ctx = some .print := by
  unfold decodePrintChar at h
  split at h
  · split at h <;> cases h
  · injection h with h; injection h with hi _; subst hi; exact printInstr_ctx _

theorem decodeZlibByte_ok {mk : Byte → Instr} {bs rest : List Bool} {i : Instr}
    (h : decodeZlibByte mk bs = .ok (i, rest)) : ∃ x, i = mk x := by
  unfold decodeZlibByte at h
  split at h
  · cases h
  · injection h with h; injection h with hi _; exact ⟨_, hi.symm⟩

theorem decodeTrailer_ctx {bs rest : List Bool} {i : Instr} (h : decodeTrailer bs = .ok (i, rest)) :
    i.ctx = some .zlibTrailer := by
  unfold decodeTrailer at h
  split at h
  · injection h with h; injection h with hi _; subst hi; rfl
  · cases h

/-- What a stream decodes to is a stream element, never a command. -/
theorem decodeStream_ctx {c : StreamCtx} {p : Nat} {bs rest : List Bool} {i : Instr}
    (h : decodeStream c p bs = .ok (i, rest)) : i.ctx ≠ none := by
  cases c <;> simp only [decodeStream] at h
  · simp [decodeBlockHeader_ctx h]
  · simp [decodeStoredBody_ctx h]
  · simp [decodeLitLenElement_ctx h]
  · simp [decodeDistanceElement_ctx h]
  · obtain ⟨x, rfl⟩ := decodeZlibByte_ok h; simp [Instr.ctx]
  · obtain ⟨x, rfl⟩ := decodeZlibByte_ok h; simp [Instr.ctx]
  · injection h with h; injection h with hi _; subst hi; simp [Instr.ctx]
  · simp [decodeTrailer_ctx h]
  · simp [decodeEscape_ctx h]
  · simp [decodePrintChar_ctx h]
  · simp [decodePrintChar_ctx h]

/-- What a decoder fetches is a stream element, never a command. -/
theorem fetch_ctx {s s' : State} {i : Instr} (h : fetch s = .element i s') : i.ctx ≠ none := by
  unfold fetch at h
  split at h
  · rename_i hd
    injection h with hi _; subst hi; exact decodeStream_ctx hd
  · cases h
  · cases h

/-- All that the reads of a cut element can change: the bit cursor and the latches of the reads before the failing one. -/
theorem cutElement_frame (s : State) : cutElement s = { s with
    rpos := (cutElement s).rpos, rbit := (cutElement s).rbit, bfinal := (cutElement s).bfinal, sym := (cutElement s).sym,
    blen := (cutElement s).blen } := by
  unfold cutElement alignByte
  split <;> first | rfl | (repeat' split) <;> rfl

/-- A failing fetch leaves the state of the cut element. -/
theorem fetch_failed {s t : State} {k : ErrorKind} (h : fetch s = .failed k t) : k = .truncatedStream ∧ t = cutElement s := by
  unfold fetch at h
  split at h
  · cases h
  · injection h with hk ht; exact ⟨hk.symm, ht.symm⟩
  · cases h

/-- On a stream element, `streamElement` is `exec`. -/
theorem streamElement_eq_exec {i : Instr} (h : i.ctx ≠ none) (s : State) : streamElement i s = exec i s := by
  cases i <;> first | exact absurd rfl h | rfl

/-- A step of a running command is one move of its decoder. -/
theorem step_running {s : State} (h : s.busy = true) : step s = streamStep s := by
  unfold step streamStep streamStepWith
  rw [if_pos h]
  cases hf : fetch s with
  | element i t => exact (streamElement_eq_exec (fetch_ctx hf) t).symm
  | failed k t => rfl
  | endOfInput => rfl

end Sys2Proof.Machine
end

