-- ==== Sys2Proof/Laws/PerInstr.lean ====
section
/-! SUPPORT. Facts about each instruction as syntax, one lemma per constructor: `EncodedLength`, the number of bits the opcode
table gives its encoding. -/

namespace Sys2Proof.Laws.EncodedLength

open Sys2Proof Sys2Proof.Machine

/-- The number of bits of the row of spec/opcode_table.json. -/
def width : Instr → Nat
  | .compress _ => 8
  | .decompress _ => 8
  | .compressZlib _ => 8
  | .decompressZlib _ => 8
  | .encodeChannel _ => 8
  | .decodeChannel _ => 8
  | .encodePrint _ => 8
  | .decodePrint _ => 8
  | .adler32 _ => 8
  | .illegalOp0 _ => 8
  | .illegalOpAB _ _ => 8
  | .illegalOpCF _ _ => 8
  | .illegalLevel1011 _ _ => 8
  | .illegalLevel1215 _ _ => 8
  | .blockStored _ => 3
  | .blockFixed _ => 3
  | .blockDynamic _ => 3
  | .blockReserved _ => 3
  | .storedBody pad _ _ data => pad.length + 32 + 8 * data.length
  | .literal0To143 _ => 8
  | .literal144To255 _ => 9
  | .eob => 7
  | .length257 => 7
  | .length258 => 7
  | .length259 => 7
  | .length260 => 7
  | .length261 => 7
  | .length262 => 7
  | .length263 => 7
  | .length264 => 7
  | .length265 _ => 8
  | .length266 _ => 8
  | .length267 _ => 8
  | .length268 _ => 8
  | .length269 _ => 9
  | .length270 _ => 9
  | .length271 _ => 9
  | .length272 _ => 9
  | .length273 _ => 10
  | .length274 _ => 10
  | .length275 _ => 10
  | .length276 _ => 10
  | .length277 _ => 11
  | .length278 _ => 11
  | .length279 _ => 11
  | .length280 _ => 12
  | .length281 _ => 13
  | .length282 _ => 13
  | .length283 _ => 13
  | .length284 _ => 13
  | .length285 => 8
  | .litlenReserved286 => 8
  | .litlenReserved287 => 8
  | .distance0 => 5
  | .distance1 => 5
  | .distance2 => 5
  | .distance3 => 5
  | .distance4 _ => 6
  | .distance5 _ => 6
  | .distance6 _ => 7
  | .distance7 _ => 7
  | .distance8 _ => 8
  | .distance9 _ => 8
  | .distance10 _ => 9
  | .distance11 _ => 9
  | .distance12 _ => 10
  | .distance13 _ => 10
  | .distance14 _ => 11
  | .distance15 _ => 11
  | .distance16 _ => 12
  | .distance17 _ => 12
  | .distance18 _ => 13
  | .distance19 _ => 13
  | .distance20 _ => 14
  | .distance21 _ => 14
  | .distance22 _ => 15
  | .distance23 _ => 15
  | .distance24 _ => 16
  | .distance25 _ => 16
  | .distance26 _ => 17
  | .distance27 _ => 17
  | .distance28 _ => 18
  | .distance29 _ => 18
  | .distanceReserved30 => 5
  | .distanceReserved31 => 5
  | .zlibCmf _ => 8
  | .zlibFlg _ => 8
  | .zlibPayload => 0
  | .zlibAdler32 _ => 32
  | .esc00 => 16
  | .esc01 => 16
  | .escFF => 16
  | .escPlain _ => 8
  | .escInvalid follower => 8 + 8 * follower.toList.length
  | .b64Upper _ => 8
  | .b64Lower _ => 8
  | .b64Digit _ => 8
  | .b64Plus => 8
  | .b64Slash => 8
  | .b64Pad => 8
  | .b64Ws _ => 8
  | .b64Invalid _ => 8

/-- An instruction that some encoding stands for is encoded in as many bits as its row has. -/
def Statement (i : Instr) : Prop := i.wf = true → (encode i).length = width i

theorem compress (level : BitVec 4) : Statement (.compress level) := fun _ => rfl

theorem decompress (level : BitVec 4) : Statement (.decompress level) := fun _ => rfl

theorem compressZlib (level : BitVec 4) : Statement (.compressZlib level) := fun _ => rfl

theorem decompressZlib (level : BitVec 4) : Statement (.decompressZlib level) := fun _ => rfl

theorem encodeChannel (level : BitVec 4) : Statement (.encodeChannel level) := fun _ => rfl

theorem decodeChannel (level : BitVec 4) : Statement (.decodeChannel level) := fun _ => rfl

theorem encodePrint (level : BitVec 4) : Statement (.encodePrint level) := fun _ => rfl

theorem decodePrint (level : BitVec 4) : Statement (.decodePrint level) := fun _ => rfl

theorem adler32 (level : BitVec 4) : Statement (.adler32 level) := fun _ => rfl

theorem illegalOp0 (level : BitVec 4) : Statement (.illegalOp0 level) := fun _ => rfl

theorem illegalOpAB (low : BitVec 1) (level : BitVec 4) : Statement (.illegalOpAB low level) := fun _ => rfl

theorem illegalOpCF (low : BitVec 2) (level : BitVec 4) : Statement (.illegalOpCF low level) := fun _ => rfl

theorem illegalLevel1011 (zlib : BitVec 1) (low : BitVec 1) : Statement (.illegalLevel1011 zlib low) := fun _ => rfl

theorem illegalLevel1215 (zlib : BitVec 1) (low : BitVec 2) : Statement (.illegalLevel1215 zlib low) := fun _ => rfl

theorem blockStored (bfinal : BitVec 1) : Statement (.blockStored bfinal) := fun _ => rfl

theorem blockFixed (bfinal : BitVec 1) : Statement (.blockFixed bfinal) := fun _ => rfl

theorem blockDynamic (bfinal : BitVec 1) : Statement (.blockDynamic bfinal) := fun _ => rfl

theorem blockReserved (bfinal : BitVec 1) : Statement (.blockReserved bfinal) := fun _ => rfl

theorem storedBody (pad : List Bool) (len : BitVec 16) (nlen : BitVec 16) (data : List Byte) : Statement (.storedBody pad len nlen data) := fun _ => by
  show (pad ++ lsbBits 16 len.toNat ++ lsbBits 16 nlen.toNat ++ bytesBits data).length = pad.length + 32 + 8 * data.length
  simp; omega

theorem literal0To143 (sym : Byte) : Statement (.literal0To143 sym) := by
  intro h
  simp only [Instr.wf, decide_eq_true_eq] at h
  show (msbBits (Rom.litLenCode sym.toNat).2 _).length = _
  rw [length_msbBits, Rom.litLenCode]
  rw [if_pos h]; rfl

theorem literal144To255 (sym : Byte) : Statement (.literal144To255 sym) := by
  intro h
  simp only [Instr.wf, decide_eq_true_eq] at h
  show (msbBits (Rom.litLenCode sym.toNat).2 _).length = _
  rw [length_msbBits, Rom.litLenCode]
  rw [if_neg (by omega), if_pos (by have := sym.isLt; omega)]; rfl

theorem eob : Statement .eob := fun _ => rfl

theorem length257 : Statement .length257 := fun _ => rfl

theorem length258 : Statement .length258 := fun _ => rfl

theorem length259 : Statement .length259 := fun _ => rfl

theorem length260 : Statement .length260 := fun _ => rfl

theorem length261 : Statement .length261 := fun _ => rfl

theorem length262 : Statement .length262 := fun _ => rfl

theorem length263 : Statement .length263 := fun _ => rfl

theorem length264 : Statement .length264 := fun _ => rfl

theorem length265 (extra : BitVec 1) : Statement (.length265 extra) := fun _ => rfl

theorem length266 (extra : BitVec 1) : Statement (.length266 extra) := fun _ => rfl

theorem length267 (extra : BitVec 1) : Statement (.length267 extra) := fun _ => rfl

theorem length268 (extra : BitVec 1) : Statement (.length268 extra) := fun _ => rfl

theorem length269 (extra : BitVec 2) : Statement (.length269 extra) := fun _ => rfl

theorem length270 (extra : BitVec 2) : Statement (.length270 extra) := fun _ => rfl

theorem length271 (extra : BitVec 2) : Statement (.length271 extra) := fun _ => rfl

theorem length272 (extra : BitVec 2) : Statement (.length272 extra) := fun _ => rfl

theorem length273 (extra : BitVec 3) : Statement (.length273 extra) := fun _ => rfl

theorem length274 (extra : BitVec 3) : Statement (.length274 extra) := fun _ => rfl

theorem length275 (extra : BitVec 3) : Statement (.length275 extra) := fun _ => rfl

theorem length276 (extra : BitVec 3) : Statement (.length276 extra) := fun _ => rfl

theorem length277 (extra : BitVec 4) : Statement (.length277 extra) := fun _ => rfl

theorem length278 (extra : BitVec 4) : Statement (.length278 extra) := fun _ => rfl

theorem length279 (extra : BitVec 4) : Statement (.length279 extra) := fun _ => rfl

theorem length280 (extra : BitVec 4) : Statement (.length280 extra) := fun _ => rfl

theorem length281 (extra : BitVec 5) : Statement (.length281 extra) := fun _ => rfl

theorem length282 (extra : BitVec 5) : Statement (.length282 extra) := fun _ => rfl

theorem length283 (extra : BitVec 5) : Statement (.length283 extra) := fun _ => rfl

theorem length284 (extra : BitVec 5) : Statement (.length284 extra) := fun _ => rfl

theorem length285 : Statement .length285 := fun _ => rfl

theorem litlenReserved286 : Statement .litlenReserved286 := fun _ => rfl

theorem litlenReserved287 : Statement .litlenReserved287 := fun _ => rfl

theorem distance0 : Statement .distance0 := fun _ => rfl

theorem distance1 : Statement .distance1 := fun _ => rfl

theorem distance2 : Statement .distance2 := fun _ => rfl

theorem distance3 : Statement .distance3 := fun _ => rfl

theorem distance4 (extra : BitVec 1) : Statement (.distance4 extra) := fun _ => rfl

theorem distance5 (extra : BitVec 1) : Statement (.distance5 extra) := fun _ => rfl

theorem distance6 (extra : BitVec 2) : Statement (.distance6 extra) := fun _ => rfl

theorem distance7 (extra : BitVec 2) : Statement (.distance7 extra) := fun _ => rfl

theorem distance8 (extra : BitVec 3) : Statement (.distance8 extra) := fun _ => rfl

theorem distance9 (extra : BitVec 3) : Statement (.distance9 extra) := fun _ => rfl

theorem distance10 (extra : BitVec 4) : Statement (.distance10 extra) := fun _ => rfl

theorem distance11 (extra : BitVec 4) : Statement (.distance11 extra) := fun _ => rfl

theorem distance12 (extra : BitVec 5) : Statement (.distance12 extra) := fun _ => rfl

theorem distance13 (extra : BitVec 5) : Statement (.distance13 extra) := fun _ => rfl

theorem distance14 (extra : BitVec 6) : Statement (.distance14 extra) := fun _ => rfl

theorem distance15 (extra : BitVec 6) : Statement (.distance15 extra) := fun _ => rfl

theorem distance16 (extra : BitVec 7) : Statement (.distance16 extra) := fun _ => rfl

theorem distance17 (extra : BitVec 7) : Statement (.distance17 extra) := fun _ => rfl

theorem distance18 (extra : BitVec 8) : Statement (.distance18 extra) := fun _ => rfl

theorem distance19 (extra : BitVec 8) : Statement (.distance19 extra) := fun _ => rfl

theorem distance20 (extra : BitVec 9) : Statement (.distance20 extra) := fun _ => rfl

theorem distance21 (extra : BitVec 9) : Statement (.distance21 extra) := fun _ => rfl

theorem distance22 (extra : BitVec 10) : Statement (.distance22 extra) := fun _ => rfl

theorem distance23 (extra : BitVec 10) : Statement (.distance23 extra) := fun _ => rfl

theorem distance24 (extra : BitVec 11) : Statement (.distance24 extra) := fun _ => rfl

theorem distance25 (extra : BitVec 11) : Statement (.distance25 extra) := fun _ => rfl

theorem distance26 (extra : BitVec 12) : Statement (.distance26 extra) := fun _ => rfl

theorem distance27 (extra : BitVec 12) : Statement (.distance27 extra) := fun _ => rfl

theorem distance28 (extra : BitVec 13) : Statement (.distance28 extra) := fun _ => rfl

theorem distance29 (extra : BitVec 13) : Statement (.distance29 extra) := fun _ => rfl

theorem distanceReserved30 : Statement .distanceReserved30 := fun _ => rfl

theorem distanceReserved31 : Statement .distanceReserved31 := fun _ => rfl

theorem zlibCmf (cmf : Byte) : Statement (.zlibCmf cmf) := fun _ => rfl

theorem zlibFlg (flg : Byte) : Statement (.zlibFlg flg) := fun _ => rfl

theorem zlibPayload : Statement .zlibPayload := fun _ => rfl

theorem zlibAdler32 (sum : BitVec 32) : Statement (.zlibAdler32 sum) := fun _ => rfl

theorem esc00 : Statement .esc00 := fun _ => rfl

theorem esc01 : Statement .esc01 := fun _ => rfl

theorem escFF : Statement .escFF := fun _ => rfl

theorem escPlain (x : Byte) : Statement (.escPlain x) := fun _ => rfl

theorem escInvalid (follower : Option Byte) : Statement (.escInvalid follower) := fun _ => by
  show (bytesBits (0x01#8 :: follower.toList)).length = 8 + 8 * follower.toList.length
  simp; omega

theorem b64Upper (c : Byte) : Statement (.b64Upper c) := fun _ => rfl

theorem b64Lower (c : Byte) : Statement (.b64Lower c) := fun _ => rfl

theorem b64Digit (c : Byte) : Statement (.b64Digit c) := fun _ => rfl

theorem b64Plus : Statement .b64Plus := fun _ => rfl

theorem b64Slash : Statement .b64Slash := fun _ => rfl

theorem b64Pad : Statement .b64Pad := fun _ => rfl

theorem b64Ws (c : Byte) : Statement (.b64Ws c) := fun _ => rfl

theorem b64Invalid (c : Byte) : Statement (.b64Invalid c) := fun _ => rfl

end Sys2Proof.Laws.EncodedLength
end

