-- ==== Sys2Proof/Tests/Slice0.lean ====
section
/-! SUPPORT. Tests. The expected values are the spec's: the encodings of spec/opcode_table.json written out bit by bit (first stream
bit on the left), and the vectors of 95_test_vectors.md, each named by its number. The witnesses at the end meet the hypotheses of
the statements of Certificates/Slice0/Obligations.lean. -/

set_option Elab.async false

open Sys2Proof Sys2Proof.Machine

namespace Sys2Proof.Tests

/-! ### Helpers -/

/-- Bits written as a string of 0 and 1, first stream bit on the left. -/
def bits (s : String) : List Bool := s.toList.map fun c => c == '1'

/-- Bytes written as numbers. -/
def hx (xs : List Nat) : List Byte := xs.map (BitVec.ofNat 8)

/-- An engine after reset with these host registers and this input. -/
def machine (cmd : BitVec 8) (xs : List Nat) (bound : Nat) : State :=
  { State.reset with cmd := cmd, inBuf := Memory.ofBytes (hx xs), inLen := xs.length, maxOut := bound }

/-- The answer is a next state with this property. -/
def ends (a : Answer) (p : State → Bool) : Bool :=
  match a with
  | .next t => p t
  | .fault _ => false
  | .refused _ => false

/-- An answer that ends so is some next state. -/
theorem next_of_ends {a : Answer} {p : State → Bool} (h : ends a p = true) : ∃ t, a = .next t ∧ p t = true := by
  cases a with
  | next t => exact ⟨t, rfl, h⟩
  | fault f => cases h
  | refused r => cases h

/-- A command's STATUS and RESULT. -/
def gives (s : State) (status : BitVec 8) (result : BitVec 32) : Bool :=
  ends (step s) fun t => t.status == status && t.result == result

/-- A command's STATUS and output. -/
def outputs (s : State) (status : BitVec 8) (xs : List Nat) : Bool :=
  ends (step s) fun t => t.status == status && t.output == hx xs

/-- An encoding and the instruction it stands for in a stream, with nothing after it. -/
def decodesTo (c : StreamCtx) (row : String × Instr) : Bool := decide (decodeStream c 0 (bits row.1) = .ok (row.2, []))

/-! ### Decoding: every row of the opcode table -/

/-- The command word, format CMD (R90 to R93). -/
theorem test_decode_commands : ([
    (0x01#8, .compress 0#4), (0x91#8, .compress 9#4), (0x02#8, .decompress 0#4),
    (0xF2#8, .decompress 15#4), (0x03#8, .compressZlib 0#4), (0x93#8, .compressZlib 9#4),
    (0x04#8, .decompressZlib 0#4), (0xF4#8, .decompressZlib 15#4), (0x05#8, .encodeChannel 0#4),
    (0xF5#8, .encodeChannel 15#4), (0x06#8, .decodeChannel 0#4), (0xF6#8, .decodeChannel 15#4),
    (0x07#8, .encodePrint 0#4), (0xF7#8, .encodePrint 15#4), (0x08#8, .decodePrint 0#4),
    (0xF8#8, .decodePrint 15#4), (0x09#8, .adler32 0#4), (0xF9#8, .adler32 15#4),
    (0x00#8, .illegalOp0 0#4), (0xF0#8, .illegalOp0 15#4), (0x0A#8, .illegalOpAB 0#1 0#4),
    (0x5B#8, .illegalOpAB 1#1 5#4), (0x0C#8, .illegalOpCF 0#2 0#4), (0xFE#8, .illegalOpCF 2#2 15#4),
    (0xA1#8, .illegalLevel1011 0#1 0#1), (0xB3#8, .illegalLevel1011 1#1 1#1), (0xC1#8, .illegalLevel1215 0#1 0#2),
    (0xF3#8, .illegalLevel1215 1#1 3#2)] : List (BitVec 8 × Instr)).all (fun row => decide (decodeCommand row.1 = row.2)) = true := by decide +kernel

/-- Block headers (R98, R99). -/
theorem test_decode_block_headers : ([
    ("000", .blockStored 0#1), ("100", .blockStored 1#1), ("010", .blockFixed 0#1),
    ("110", .blockFixed 1#1), ("001", .blockDynamic 0#1), ("101", .blockDynamic 1#1),
    ("011", .blockReserved 0#1), ("111", .blockReserved 1#1)] : List (String × Instr)).all (decodesTo .blockHeader) = true := by decide +kernel

/-- Literals, end of block and the reserved symbols (R102). -/
theorem test_decode_literals : ([
    ("00110000", .literal0To143 0#8), ("01100001", .literal0To143 49#8), ("10111111", .literal0To143 143#8),
    ("110010000", .literal144To255 144#8), ("111000001", .literal144To255 193#8), ("111111111", .literal144To255 255#8),
    ("0000000", .eob), ("11000110", .litlenReserved286), ("11000111", .litlenReserved287)] : List (String × Instr)).all (decodesTo .litLen) = true := by decide +kernel

/-- Length symbols with an extra field, LSB first (R104, R156). -/
theorem test_decode_lengths : ([
    ("0000001", .length257), ("0000010", .length258), ("0000011", .length259),
    ("0000100", .length260), ("0000101", .length261), ("0000110", .length262),
    ("0000111", .length263), ("0001000", .length264), ("00010011", .length265 1#1),
    ("00010101", .length266 1#1), ("00010111", .length267 1#1), ("00011001", .length268 1#1),
    ("000110110", .length269 1#2), ("000111010", .length270 1#2), ("000111110", .length271 1#2),
    ("001000010", .length272 1#2), ("0010001110", .length273 3#3), ("0010010110", .length274 3#3),
    ("0010011110", .length275 3#3), ("0010100110", .length276 3#3), ("00101011100", .length277 3#4),
    ("00101101100", .length278 3#4), ("00101111100", .length279 3#4), ("110000001100", .length280 3#4),
    ("1100000111000", .length281 3#5), ("1100001011000", .length282 3#5), ("1100001111000", .length283 3#5),
    ("1100010011000", .length284 3#5), ("11000101", .length285)] : List (String × Instr)).all (decodesTo .litLen) = true := by decide +kernel

/-- Distance symbols with an extra field, LSB first (R103, R104, R157). -/
theorem test_decode_distances : ([
    ("00000", .distance0), ("00001", .distance1), ("00010", .distance2),
    ("00011", .distance3), ("001001", .distance4 1#1), ("001011", .distance5 1#1),
    ("0011010", .distance6 1#2), ("0011110", .distance7 1#2), ("01000110", .distance8 3#3),
    ("01001110", .distance9 3#3), ("010101100", .distance10 3#4), ("010111100", .distance11 3#4),
    ("0110011000", .distance12 3#5), ("0110111000", .distance13 3#5), ("01110110000", .distance14 3#6),
    ("01111110000", .distance15 3#6), ("100001100000", .distance16 3#7), ("100011100000", .distance17 3#7),
    ("1001011000000", .distance18 3#8), ("1001111000000", .distance19 3#8), ("10100110000000", .distance20 3#9),
    ("10101110000000", .distance21 3#9), ("101101100000000", .distance22 3#10), ("101111100000000", .distance23 3#10),
    ("1100011000000000", .distance24 3#11), ("1100111000000000", .distance25 3#11), ("11010110000000000", .distance26 3#12),
    ("11011110000000000", .distance27 3#12), ("111001100000000000", .distance28 3#13), ("111011100000000000", .distance29 3#13),
    ("11110", .distanceReserved30), ("11111", .distanceReserved31)] : List (String × Instr)).all (decodesTo .distance) = true := by decide +kernel

/-- CMF (R111). -/
theorem test_decode_zlib_cmf : ([
    ("00011110", .zlibCmf 0x78#8)] : List (String × Instr)).all (decodesTo .zlibCmf) = true := by decide +kernel

/-- FLG (R112). -/
theorem test_decode_zlib_flg : ([
    ("00111001", .zlibFlg 0x9C#8)] : List (String × Instr)).all (decodesTo .zlibFlg) = true := by decide +kernel

/-- The payload has no bits of its own (R110). -/
theorem test_decode_zlib_payload : ([
    ("", .zlibPayload)] : List (String × Instr)).all (decodesTo .zlibPayload) = true := by decide +kernel

/-- The trailer, big-endian (R113). -/
theorem test_decode_zlib_trailer : ([
    ("11111000011110010010000001010110", .zlibAdler32 0x1F9E046A#32)] : List (String × Instr)).all (decodesTo .zlibTrailer) = true := by decide +kernel

/-- The channel-safe form (R114). -/
theorem test_decode_escapes : ([
    ("1000000010000000", .esc00), ("1000000001000000", .esc01), ("1000000011000000", .escFF),
    ("10000010", .escPlain 0x41#8), ("11111111", .escPlain 0xFF#8), ("1000000000100000", .escInvalid (some 0x04#8)),
    ("10000000", .escInvalid none)] : List (String × Instr)).all (decodesTo .escape) = true := by decide +kernel

/-- The character classes of Base64 (R281, R284). -/
theorem test_decode_print : ([
    ("10000010", .b64Upper 0x41#8), ("01011010", .b64Upper 0x5A#8), ("10000110", .b64Lower 0x61#8),
    ("01011110", .b64Lower 0x7A#8), ("00001100", .b64Digit 0x30#8), ("10011100", .b64Digit 0x39#8),
    ("11010100", .b64Plus), ("11110100", .b64Slash), ("10111100", .b64Pad),
    ("10010000", .b64Ws 0x09#8), ("10110000", .b64Ws 0x0D#8), ("00000100", .b64Ws 0x20#8),
    ("01010100", .b64Invalid 0x2A#8), ("00000000", .b64Invalid 0x00#8), ("00000010", .b64Invalid 0x40#8),
    ("11111110", .b64Invalid 0x7F#8)] : List (String × Instr)).all (decodesTo .print) = true := by decide +kernel

/-- A stored body whose header ended at bit 2: five padding bits, LEN 2, NLEN, two bytes (R100). -/
theorem test_decode_stored_body :
    decodeStream .storedBody 3 (bits "10110" ++ bits "0100000000000000" ++ bits "1011111111111111" ++
      bits "1000011001000110" ++ bits "1") =
      .ok (.storedBody (bits "10110") 2#16 0xFFFD#16 (hx [0x61, 0x62]), bits "1") := by decide +kernel

/-- Words as the opcode table numbers them. -/
theorem test_decode_table_words :
    decodeTableWord 8 0x61 = some (.compress 6#4) ∧ decodeTableWord 16 0x0101 = some .esc00 ∧
      decodeTableWord 16 0x0201 = some .esc01 ∧ decodeTableWord 16 0x0301 = some .escFF ∧
      decodeTableWord 32 0x6A049E1F = some (.zlibAdler32 0x1F9E046A#32) ∧ decodeTableWord 5 0 = none := by decide +kernel

/-! ### Well-formedness refuses -/

theorem test_wf_refuses_compress_level : (Instr.compress 10#4).wf = false := by decide
theorem test_wf_refuses_compress_zlib_level : (Instr.compressZlib 12#4).wf = false := by decide
theorem test_wf_refuses_long_padding : (Instr.storedBody (bits "00000000") 0#16 0#16 []).wf = false := by decide +kernel
theorem test_wf_refuses_short_data : (Instr.storedBody [] 2#16 0#16 [0x61#8]).wf = false := by decide
theorem test_wf_refuses_long_data : (Instr.storedBody [] 0#16 0#16 [0x61#8]).wf = false := by decide
theorem test_wf_refuses_literal_144 : (Instr.literal0To143 144#8).wf = false := by decide
theorem test_wf_refuses_literal_143 : (Instr.literal144To255 143#8).wf = false := by decide
theorem test_wf_refuses_plain_01 : (Instr.escPlain 0x01#8).wf = false := by decide
theorem test_wf_refuses_valid_followers :
    (Instr.escInvalid (some 0x01#8)).wf = false ∧ (Instr.escInvalid (some 0x02#8)).wf = false ∧
      (Instr.escInvalid (some 0x03#8)).wf = false := by decide
theorem test_wf_refuses_upper : (Instr.b64Upper 0x40#8).wf = false ∧ (Instr.b64Upper 0x5B#8).wf = false := by decide
theorem test_wf_refuses_lower : (Instr.b64Lower 0x60#8).wf = false ∧ (Instr.b64Lower 0x7B#8).wf = false := by decide
theorem test_wf_refuses_digit : (Instr.b64Digit 0x2F#8).wf = false ∧ (Instr.b64Digit 0x3A#8).wf = false := by decide
theorem test_wf_refuses_space : (Instr.b64Ws 0x08#8).wf = false ∧ (Instr.b64Ws 0x21#8).wf = false := by decide
theorem test_wf_refuses_invalid :
    (Instr.b64Invalid 0x41#8).wf = false ∧ (Instr.b64Invalid 0x3D#8).wf = false ∧ (Instr.b64Invalid 0x20#8).wf = false := by
  decide

/-! ### Commands: vectors of 95_test_vectors.md -/

theorem test_V30_empty : outputs (machine 0x61 [] 0) 0x06 [0x03, 0x00] = true := by decide +kernel
theorem test_V31_empty_stored : outputs (machine 0x01 [] 0) 0x06 [0x01, 0x00, 0x00, 0xFF, 0xFF] = true := by decide +kernel
theorem test_V33_stored : outputs (machine 0x01 [0x61] 0) 0x06 [0x01, 0x01, 0x00, 0xFE, 0xFF, 0x61] = true := by decide +kernel
theorem test_V40_matches : outputs (machine 0x91 [0x61, 0x62, 0x63, 0x58, 0x61, 0x62, 0x63, 0x59, 0x61, 0x62, 0x63] 0) 0x06 [0x4B, 0x4C, 0x4A, 0x8E, 0x00, 0xE2, 0x48, 0x20, 0x06, 0x00] = true := by decide +kernel
theorem test_V43b_overlap : outputs (machine 0x11 [0xFF, 0xFF, 0xFF, 0xFF] 0) 0x06 [0xFB, 0x0F, 0x04, 0x00] = true := by decide +kernel
theorem test_V44a_cut : gives (machine 0x02 [0x03] 0) 0x12 0x00000000 = true := by decide +kernel
theorem test_V45a_nlen_skipped : outputs (machine 0x02 [0x01, 0x01, 0x00, 0x00, 0x00, 0x61] 0) 0x06 [0x61] = true := by decide +kernel
theorem test_V46_dynamic : gives (machine 0x02 [0x05] 0) 0x22 0x00000000 = true := by decide +kernel
theorem test_V47b_trailing_bytes : outputs (machine 0x02 [0x4B, 0x04, 0x02, 0x00, 0xDE, 0xAD] 0) 0x06 [0x61, 0x61, 0x61, 0x61] = true := by decide +kernel
theorem test_V48_at_the_bound : outputs (machine 0x02 [0x4B, 0x04, 0x02, 0x00] 4) 0x06 [0x61, 0x61, 0x61, 0x61] = true := by decide +kernel
theorem test_V48a_over_the_bound : gives (machine 0x02 [0x4B, 0x04, 0x02, 0x00] 3) 0x92 0x00000000 = true := by decide +kernel
theorem test_V51a_padding : outputs (machine 0x02 [0x4A, 0x04, 0xE4, 0x01, 0x00, 0xFE, 0xFF, 0x62] 0) 0x06 [0x61, 0x62] = true := by decide +kernel
theorem test_V52_back_reference : gives (machine 0x02 [0x03, 0x02, 0x00] 0) 0x32 0x00000000 = true := by decide +kernel
theorem test_V53a_distance_30 : gives (machine 0x02 [0x4B, 0x04, 0x3E, 0x00] 0) 0x82 0x00000000 = true := by decide +kernel
theorem test_P2_two_blocks : outputs (machine 0x02 [0x00, 0x03, 0x00, 0xFC, 0xFF, 0x61, 0x62, 0x63, 0x03, 0xA3, 0x08, 0x64, 0x06, 0x00] 0) 0x06 [0x61, 0x62, 0x63, 0x61, 0x62, 0x63, 0x61, 0x62, 0x58, 0x61, 0x62, 0x63, 0x61, 0x62, 0x63, 0x61, 0x62, 0x58, 0x61, 0x62, 0x63] = true := by decide +kernel
theorem test_V60_compress_zlib : outputs (machine 0x63 [0x48, 0x65, 0x6C, 0x6C, 0x6F, 0x2C, 0x20, 0x57, 0x6F, 0x72, 0x6C, 0x64, 0x21] 0) 0x06 [0x78, 0x9C, 0xF3, 0x48, 0xCD, 0xC9, 0xC9, 0xD7, 0x51, 0x08, 0xCF, 0x2F, 0xCA, 0x49, 0x51, 0x04, 0x00, 0x1F, 0x9E, 0x04, 0x6A] = true := by decide +kernel
theorem test_V60_decompress_zlib : outputs (machine 0xF4 [0x78, 0x9C, 0xF3, 0x48, 0xCD, 0xC9, 0xC9, 0xD7, 0x51, 0x08, 0xCF, 0x2F, 0xCA, 0x49, 0x51, 0x04, 0x00, 0x1F, 0x9E, 0x04, 0x6A] 0) 0x06 [0x48, 0x65, 0x6C, 0x6C, 0x6F, 0x2C, 0x20, 0x57, 0x6F, 0x72, 0x6C, 0x64, 0x21] = true := by decide +kernel
theorem test_V61_checksum_mismatch : outputs (machine 0x04 [0x78, 0x9C, 0xF3, 0x48, 0xCD, 0xC9, 0xC9, 0xD7, 0x51, 0x08, 0xCF, 0x2F, 0xCA, 0x49, 0x51, 0x04, 0x00, 0x1F, 0x9E, 0x04, 0x6B] 0) 0x52 [0x48, 0x65, 0x6C, 0x6C, 0x6F, 0x2C, 0x20, 0x57, 0x6F, 0x72, 0x6C, 0x64, 0x21] = true := by decide +kernel
theorem test_V61_result : gives (machine 0x04 [0x78, 0x9C, 0xF3, 0x48, 0xCD, 0xC9, 0xC9, 0xD7, 0x51, 0x08, 0xCF, 0x2F, 0xCA, 0x49, 0x51, 0x04, 0x00, 0x1F, 0x9E, 0x04, 0x6B] 0) 0x52 0x1F9E046A = true := by decide +kernel
theorem test_V64b_header_before_length : gives (machine 0x04 [0x78, 0x9D] 0) 0x42 0x00000000 = true := by decide +kernel
theorem test_V64a_short : gives (machine 0x04 [0x78, 0x9C] 0) 0x12 0x00000000 = true := by decide +kernel
theorem test_V65b_dictionary : gives (machine 0x04 [0x78, 0xBB, 0x03, 0x00, 0x00, 0x00, 0x00, 0x01] 0) 0x42 0x00000000 = true := by decide +kernel
theorem test_V66_block_type : gives (machine 0x04 [0x78, 0x9C, 0x07, 0x00, 0x00, 0x00, 0x00, 0x01] 0) 0x22 0x00000000 = true := by decide +kernel
theorem test_V72_adler : gives (machine 0x09 [0x61, 0x62, 0x63] 0) 0x06 0x024D0127 = true := by decide +kernel
theorem test_V80_encode_channel : outputs (machine 0x05 [0x00, 0x01, 0xFF, 0x41] 0) 0x06 [0x01, 0x01, 0x01, 0x02, 0x01, 0x03, 0x41] = true := by decide +kernel
theorem test_V85_decode_channel : outputs (machine 0x06 [0x01, 0x01, 0x01, 0x02] 0) 0x06 [0x00, 0x01] = true := by decide +kernel
theorem test_V87_follower : gives (machine 0x06 [0x01, 0x04] 0) 0x62 0x00000000 = true := by decide +kernel
theorem test_V88_raw_bytes : outputs (machine 0x06 [0x00, 0xFF] 0) 0x06 [0x00, 0xFF] = true := by decide +kernel
theorem test_V92_encode_print : outputs (machine 0x07 [0x48, 0x65, 0x6C, 0x6C, 0x6F, 0x2C, 0x20, 0x57, 0x6F, 0x72, 0x6C, 0x64, 0x21] 0) 0x06 [0x53, 0x47, 0x56, 0x73, 0x62, 0x47, 0x38, 0x73, 0x49, 0x46, 0x64, 0x76, 0x63, 0x6D, 0x78, 0x6B, 0x49, 0x51, 0x3D, 0x3D] = true := by decide +kernel
theorem test_V93_decode_print : outputs (machine 0x08 [0x53, 0x47, 0x56, 0x73, 0x20, 0x62, 0x47, 0x38, 0x73, 0x0D, 0x0A, 0x49, 0x46, 0x64, 0x76, 0x09, 0x63, 0x6D, 0x78, 0x6B, 0x20, 0x49, 0x51, 0x20, 0x3D, 0x20, 0x3D] 0) 0x06 [0x48, 0x65, 0x6C, 0x6C, 0x6F, 0x2C, 0x20, 0x57, 0x6F, 0x72, 0x6C, 0x64, 0x21] = true := by decide +kernel
theorem test_V95_padding_short : gives (machine 0x08 [0x53, 0x47, 0x56, 0x73, 0x62, 0x47, 0x38, 0x73, 0x49, 0x46, 0x64, 0x76, 0x63, 0x6D, 0x78, 0x6B, 0x49, 0x51, 0x3D] 0) 0x72 0x00000000 = true := by decide +kernel
theorem test_V97_padding_inside : gives (machine 0x08 [0x51, 0x3D, 0x51, 0x51] 0) 0x72 0x00000000 = true := by decide +kernel
theorem test_V98_unused_bits : outputs (machine 0x08 [0x51, 0x52, 0x3D, 0x3D] 0) 0x06 [0x41] = true := by decide +kernel
theorem test_V100_reset_command : gives (machine 0x00 [0x61, 0x62, 0x63] 0) 0xF2 0x00000000 = true := by decide +kernel
theorem test_V102_level_10 : gives (machine 0xA1 [0x61, 0x62, 0x63] 0) 0xF2 0x00000000 = true := by decide +kernel

/-! ### Bit stream, matcher and steps -/

/-- V4: an odd bit, then sixteen, then the flush. -/
theorem test_V4_writer :
    (flush (writeBits 0xABCD 16 (writeBits 1 1 (start State.reset)))).output = hx [0x9B, 0x57, 0x01] := by decide +kernel

/-- V8: a nine-bit code, top bit first. -/
theorem test_V8_code : (flush (writeCode 0x190 9 (start State.reset))).output = hx [0x13, 0x00] := by decide +kernel

/-- V9a: two reads of one byte. -/
theorem test_V9a_reader :
    (match readBits 3 (start (machine 0x02 [0xA5] 0)) with
      | .ok (x, s) => decide (x = 5) && (match readBits 5 s with
        | .ok (y, t) => decide (y = 20) && decide (t.rpos = 1) && decide (t.rbit = 0#3)
        | .error _ => false)
      | .error _ => false) = true := by decide +kernel

/-- V9b: a read that finds too few bits fails. -/
theorem test_V9b_reader :
    (match readBits 3 (start (machine 0x02 [0xA5] 0)) with
      | .ok (_, s) => (match readBits 6 s with | .ok _ => false | .error k => decide (k = .truncatedStream))
      | .error _ => false) = true := by decide +kernel

/-- R178: two equal matches, the nearer one wins; V24: two bytes left. -/
theorem test_V20_matcher :
    (findMatch 8 (machine 0x61 [0x61, 0x62, 0x63, 0x58, 0x61, 0x62, 0x63, 0x59, 0x61, 0x62, 0x63] 0)).bestDist = 4#16 ∧
      (findMatch 8 (machine 0x61 [0x61, 0x62, 0x63, 0x58, 0x61, 0x62, 0x63, 0x59, 0x61, 0x62, 0x63] 0)).bestLen = 3#9 ∧
      (findMatch 1 (machine 0x61 [0x61, 0x61, 0x61] 0)).bestLen = 0#9 := by decide +kernel

/-- V79: the sum wraps past 65521. -/
theorem test_V79_adler_step : (adlerStep 0xFF#8 { State.reset with a := 65520#16 }).a = 254#16 := by decide +kernel

/-- A command word placed by `withFetchWord` is what the next step runs: ADLER32 of no input (V70). -/
theorem test_fetch_word_command :
    ends (step (State.reset.withFetchWord 8 0x09)) (fun t => t.status == 0x06#8 && t.result == 1#32) = true := by
  decide +kernel

/-- A stream word placed by `withFetchWord` is what the next step runs: 01 03 appends FF. -/
theorem test_fetch_word_escape :
    ends (step (State.reset.withFetchWord 16 0x0301)) (fun t => t.output == hx [0xFF] && t.ipos == 2 && t.busy) = true := by
  decide +kernel

/-- The trailer 00 00 00 01 is the checksum of no output. -/
theorem test_fetch_word_trailer :
    ends (step (State.reset.withFetchWord 32 0x01000000)) (fun t => t.status == 0x06#8 && t.result == 1#32) = true := by
  decide +kernel

/-- R158: a fixed block whose five remaining bits cut its first code; every one of them stays consumed. -/
theorem test_R158_cut_code :
    ends (step (machine 0x02 [0x03] 0)) (fun t => t.status == 0x12#8 && t.rpos == 1 && t.rbit == 0#3) = true := by
  decide +kernel

/-- R159, R136: code 29 has an extra field of thirteen bits and three are left: the code stays consumed, they do not. -/
theorem test_R159_cut_extra :
    ends (step (State.reset.withStream .distance (hx [0x17])))
      (fun t => t.status == 0x12#8 && t.rpos == 0 && t.rbit == 5#3) = true := by decide +kernel

/-- R215: a byte of LEN is all there is after the alignment; a stored byte that meets the bound leaves the next one unread. -/
theorem test_R215_cut_and_bound :
    ends (step (machine 0x02 [0x01, 0x05] 0)) (fun t => t.status == 0x12#8 && t.rpos == 1 && t.rbit == 0#3) = true ∧
    ends (step (machine 0x02 [0x01, 0x03, 0x00, 0xFC, 0xFF, 0x61, 0x62, 0x63] 1)) (fun t =>
      t.status == 0x92#8 && t.rpos == 7 && t.blen == 3#16) = true := by decide +kernel

/-- R285: `grp` after the text of one byte is its two indices on the left. -/
theorem test_R285_last_group :
    ends (step (machine 0x08 [0x51, 0x52, 0x3D, 0x3D] 0)) (fun t => t.grp == 0x411000#24) = true ∧
    ends (step (machine 0x08 [0x51, 0x52, 0x51, 0x51] 0)) (fun t => t.grp == 0x411410#24) = true := by decide +kernel

/-- R60, R365: a shorter input placed over a longer one leaves the bytes beyond it, and the host reads them back. -/
theorem test_R365_place_again :
    ((hostLoad (hx [0x61, 0x62]) State.reset >>= hostLoad (hx [0x63])) >>= hostReadIn 1) = some 0x62#8 ∧
    ((hostLoad (hx [0x61, 0x62]) State.reset >>= hostLoad (hx [0x63])) >>= hostReadInLen) = some 1 := by decide +kernel

/-! ### Witnesses: concrete states and operands that meet the hypotheses of the statements -/

/-- A running decoder at the beginning of these bytes. -/
def running (c : StreamCtx) (xs : List Nat) : State := State.reset.withStream c (hx xs)

/-- A running decoder with `61 62 63` in `OUT` and the window, a match of `n` bytes latched, and an output bound. -/
def withOutput (n bound : Nat) : State :=
  { (winPush 0x63#8 (append 0x63#8 (winPush 0x62#8 (append 0x62#8 (winPush 0x61#8 (append 0x61#8
      (running .distance []))))))) with mlen := BitVec.ofNat 9 n, maxOut := bound }

/-- The same with 32768 bytes of output claimed: the largest distance is within it. -/
def withLongOutput (n bound : Nat) : State := { withOutput n bound with outLen := 32768 }

/-- The stream `4B 04 02 00` (V34) as elements: a, then a match of length 3 at distance 1. -/
def v34 : List Ref.Block := [.fixed [.literal 0x61#8, .copy 0 0 0 0]]

theorem witness_ResetGivesTheHostRegisterValues :
    State.reset = State.reset ∧ hostReset (withOutput 3 0) = hostReset (withOutput 3 0) := ⟨rfl, rfl⟩

theorem witness_StepRunsTheDecodedInstruction :
    State.reset.busy = false ∧ (running .blockHeader [0x03, 0x00]).busy = true ∧
    decodeStream .blockHeader 0 (unreadBits (running .blockHeader [0x03])) =
      .ok (.blockFixed 1#1, bits "00000") ∧
    decodeStream .blockHeader 0 (unreadBits (running .blockHeader [])) = .error .truncated ∧
    (running .zlibCmf []).busy = true ∧ decodeStream .zlibCmf 0 (unreadBits (running .zlibCmf [])) = .error .truncated ∧
    (running .escape []).busy = true ∧ (running .escape []).micro = .escape ∧
    decodeStream .escape 0 (unreadBits (running .escape [])) = .error .endOfInput := by decide +kernel

theorem witness_TheCursorMovesPastTheElement :
    let s := running .blockHeader [0x03]
    s.busy = true ∧ s.cursorsOk = true ∧
      (s.micro ≠ .zlibCmf ∧ s.micro ≠ .zlibFlg ∧ s.micro ≠ .zlibPayload ∧ s.micro ≠ .zlibTrailer) ∧
      decodeStream s.micro s.rbit.toNat (unreadBits s) = .ok (.blockFixed 1#1, bits "00000") := by decide +kernel

/-- Illegal at 0, 10, 15 and levels 10 and 15; legal at 1, 9 and level 9. -/
theorem witness_IllegalCommandsAreRefused :
    (∀ c ∈ [0x00#8, 0xFA#8, 0x0F#8, 0xA1#8, 0xF3#8],
      (machine c [] 0).busy = false ∧ ¬ (1 ≤ c.toNat % 16 ∧ c.toNat % 16 ≤ 9 ∧
        (c.toNat % 16 = 1 ∨ c.toNat % 16 = 3 → c.toNat / 16 ≤ 9))) ∧
    (∀ c ∈ [0x01#8, 0x91#8, 0x93#8, 0xF2#8, 0x09#8],
      (machine c [] 0).busy = false ∧ 1 ≤ c.toNat % 16 ∧ c.toNat % 16 ≤ 9 ∧
        (c.toNat % 16 = 1 ∨ c.toNat % 16 = 3 → c.toNat / 16 ≤ 9)) ∧
    ends (step (machine 0x09 [] 0)) (fun t => t.err == 0#4) = true := by decide +kernel

theorem witness_HostMovesBetweenCommands :
    State.reset.busy = false ∧ (running .print []).busy = true ∧ State.reset.done = false ∧
    ({ State.reset with status := 0x06#8, outLen := 1 } : State).done = true ∧
    0 < ({ State.reset with status := 0x06#8, outLen := 1 } : State).outLen ∧ State.reset.inBuf.wf = true ∧
    ({ State.reset with status := 0x06#8, outLen := 1 } : State).outLen ≤ 1 := by decide

theorem witness_DecodeOfEncodeIsTheInstruction :
    (Instr.compress 9#4).wf = true ∧ (Instr.compress 9#4).ctx = none ∧
    (Instr.length285).wf = true ∧ (Instr.length285).ctx = some .litLen ∧
    (Instr.storedBody (bits "10110") 1#16 7#16 [0x61#8]).wf = true ∧ (bits "10110").length = padBits 3 ∧
    (Instr.escInvalid none).wf = true ∧ (Instr.escInvalid none).ctx = some .escape := by decide +kernel

theorem witness_DecodedBitsAreTheEncoding :
    decodeStream .distance 0 (bits "000111") = .ok (.distance3, bits "1") ∧
    decodeStream .storedBody 0 (bits "0100000000000000" ++ bits "0000000000000000" ++ bits "10000110") =
      .ok (.storedBody [] 2#16 0#16 [0x61#8], []) := by decide +kernel

theorem witness_LitLenCodesAreUnambiguous :
    (0 ≤ 287 ∧ 287 ≤ 287 ∧ (0 : Nat) ≠ 287) ∧ 9 ≤ (bits "111111111").length := by decide +kernel

/-- The bounds of the ranges. -/
theorem witness_SymbolSelectionFindsTheRange :
    (3 ≤ 3 ∧ 3 ≤ 257) ∧ (3 ≤ 257 ∧ 257 ≤ 257) ∧ (3 ≤ 258 ∧ 258 ≤ 258) ∧ (1 ≤ 1 ∧ 1 ≤ 32768) ∧
      (1 ≤ 32768 ∧ 32768 ≤ 32768) := by decide

theorem witness_WriteBitsAppendsTheLowBits :
    Ref.pendingOk (writeBits 0x7F 7 State.reset) ∧ (writeBits 0x7F 7 State.reset).outBuf.wf = true ∧
      (writeBits 0x7F 7 State.reset).wcnt = 7#3 := by
  unfold Ref.pendingOk; decide +kernel

theorem witness_FlushPadsAndWriteCodeReverses :
    (Ref.pendingOk State.reset ∧ State.reset.outBuf.wf = true ∧ State.reset.wcnt = 0#3) ∧
    (Ref.pendingOk (writeBits 0x7F 7 State.reset) ∧ (writeBits 0x7F 7 State.reset).outBuf.wf = true ∧
      (writeBits 0x7F 7 State.reset).wcnt ≠ 0#3) := by
  unfold Ref.pendingOk; decide +kernel

theorem witness_ReadBitsAndAlignByte :
    let s := running .blockHeader [0xA5]
    Ref.cursorOk s ∧ bitsLeft s < 9 ∧ 8 ≤ bitsLeft s ∧ 8 = bitsLeft s ∧ s.rbit = 0#3 ∧
      Ref.cursorOk (advanceBits 7 s) ∧ (advanceBits 7 s).rbit ≠ 0#3 := by
  unfold Ref.cursorOk; decide +kernel

theorem witness_BitStreamLaws :
    Ref.cursorOk (running .blockHeader [0xA5]) ∧
    (∃ u, readBits 3 (running .blockHeader [0xA5]) = .ok (5, u) ∧
      readBits 5 u = .ok (20, advanceBits 5 (advanceBits 3 (running .blockHeader [0xA5])))) ∧
    (State.reset.outBuf = [] ∧ State.reset.outLen = 0 ∧ State.reset.wacc = 0#8 ∧ State.reset.wcnt = 0#3) ∧
    (∀ t : State, Ref.readsOutputOf t { State.reset with inBuf := t.outBuf, rend := t.outLen }) := by
  refine ⟨by unfold Ref.cursorOk; decide +kernel, ⟨advanceBits 3 (running .blockHeader [0xA5]), ?_, ?_⟩,
    ⟨rfl, rfl, rfl, rfl⟩, fun t => ⟨rfl, rfl, rfl, rfl⟩⟩ <;> rfl

theorem witness_ElementsAreReadAsThePseudocodeReads :
    ∀ c ∈ [StreamCtx.blockHeader, .storedBody, .litLen, .distance],
      (running c [0x4B, 0x04]).busy = true ∧ (running c [0x4B, 0x04]).cursorsOk = true ∧
        (running c [0x4B, 0x04]).micro = c := by decide +kernel

/-- All there, cut short, and at the bound. -/
theorem witness_StoredBodyCopiesItsBytes :
    (withOutput 0 0).memoriesOk = true ∧ (withOutput 0 0).wfill.toNat ≤ 32768 ∧ (withOutput 0 0).maxOut = 0 ∧
    (hx [0x64]).length = (1#16).toNat ∧ (hx [0x64]).length < (2#16).toNat ∧
    (withOutput 0 3).memoriesOk = true ∧ (withOutput 0 3).maxOut ≠ 0 ∧
    (withOutput 0 3).maxOut < (withOutput 0 3).outLen + (hx [0x64]).length ∧ 0 < (hx [0x64]).length ∧
    (withOutput 0 4).outLen + (hx [0x64]).length ≤ (withOutput 0 4).maxOut := by decide +kernel

theorem witness_LiteralsPutTheirByte :
    (143#8).toNat ≤ 143 ∧ 144 ≤ (144#8).toNat ∧ (withOutput 0 0).maxOut = 0 ∧
    (withOutput 0 4).outLen < (withOutput 0 4).maxOut ∧ (withOutput 0 4).memoriesOk = true ∧
    (withOutput 0 3).maxOut ≠ 0 ∧ (withOutput 0 3).maxOut ≤ (withOutput 0 3).outLen := by decide +kernel

theorem witness_EndOfBlockAndReservedSymbols :
    State.reset.bfinal = 0#1 ∧ ({ State.reset with bfinal := 1#1 } : State).zlib = false ∧
      ({ State.reset with bfinal := 1#1, zlib := true } : State).zlib = true := by decide

/-- The smallest distance, the largest that is within three bytes, and the largest of all. -/
theorem witness_DistanceElementsCopyTheMatch :
    (withOutput 258 0).memoriesOk = true ∧ (withOutput 258 0).wfill.toNat ≤ 32768 ∧ 1 ≤ (withOutput 258 0).outLen ∧
    3 ≤ (withOutput 258 0).outLen ∧ (withOutput 258 0).maxOut = 0 ∧
    (withOutput 258 261).outLen + (withOutput 258 261).mlen.toNat ≤ (withOutput 258 261).maxOut ∧
    (withLongOutput 3 0).memoriesOk = true ∧ 24577 + (8191#13).toNat ≤ (withLongOutput 3 0).outLen := by decide +kernel

theorem witness_DistancesBeyondTheOutputAreRefused :
    State.reset.outLen < 1 ∧ (withOutput 3 0).outLen < 4 ∧ (withOutput 3 0).outLen < 24577 + (8191#13).toNat := by
  decide +kernel

theorem witness_CopiesMeetTheOutputBound :
    (withOutput 3 5).memoriesOk = true ∧ (withOutput 3 5).wfill.toNat ≤ 32768 ∧ 1 ≤ (withOutput 3 5).outLen ∧
    (withOutput 3 5).maxOut ≠ 0 ∧ (withOutput 3 5).maxOut < (withOutput 3 5).outLen + (withOutput 3 5).mlen.toNat ∧
    0 < (withOutput 3 5).mlen.toNat ∧
    (withLongOutput 3 32769).memoriesOk = true ∧ 24577 + (8191#13).toNat ≤ (withLongOutput 3 32769).outLen ∧
    (withLongOutput 3 32769).maxOut < (withLongOutput 3 32769).outLen + (withLongOutput 3 32769).mlen.toNat := by
  decide +kernel

theorem witness_WindowHoldsTheLastBytes :
    (running .litLen [0x71]).inv = true ∧ inflating (running .litLen [0x71]) = true ∧
    (running .litLen [0x71]).memoriesOk = true ∧ (running .litLen [0x71]).windowOk ∧
    (∃ t, put 0x61#8 (running .litLen [0x71]) = .ok t) ∧
    (∃ t, step (running .litLen [0x71]) = .next t ∧ (t.busy || t.ok) = true) ∧
    State.reset.ipos = 0 ∧ State.reset.wptr = 0#15 ∧ State.reset.wfill = 0#16 ∧ State.reset.memoriesOk = true := by
  refine ⟨by decide +kernel, by decide +kernel, by decide +kernel, ⟨by decide +kernel, by decide +kernel, ?_⟩,
    ⟨_, rfl⟩, next_of_ends (by decide +kernel), rfl, rfl, rfl, by decide⟩
  intro d h1 h2
  have : (running .litLen [0x71]).wfill.toNat = 0 := by decide +kernel
  omega

theorem witness_DecompressExpandsStreams :
    let s := machine 0x02 [0x4B, 0x04, 0x02, 0x00] 4
    s.memoriesOk = true ∧ v34 ≠ [] ∧ Ref.streamOk 0 v34 = true ∧
      bytesBits s.input = Ref.streamBits v34 ++ bits "00" ∧ Ref.expand [] v34 = some (hx [0x61, 0x61, 0x61, 0x61]) ∧
      (s.maxOut = 0 ∨ (hx [0x61, 0x61, 0x61, 0x61]).length ≤ s.maxOut) := by decide +kernel

theorem witness_ZlibHeaderBytesAreChecked :
    (machine 0x04 [0x78] 0).inLen < 2 ∧ 2 ≤ (machine 0x04 [0x78, 0x9C] 0).inLen ∧ 0x77#8 &&& 0x0F#8 ≠ 8#8 ∧
    0x78#8 &&& 0x0F#8 = 8#8 ∧ (machine 0x04 [0x78, 0x9C] 0).inBuf.read 0 = 0x78#8 ∧
    Ref.headerOk 0x78#8 0x9C#8 = true ∧ Ref.headerOk 0x78#8 0x9D#8 = false ∧ Ref.headerOk 0x78#8 0xBB#8 = false := by
  decide +kernel

theorem witness_ZlibPayloadIsInflated :
    (running .zlibPayload [0x78, 0x9C]).inv = true ∧ (running .zlibPayload [0x78, 0x9C]).busy = true ∧
    (running .zlibPayload [0x78, 0x9C]).inLen < 6 ∧
    (let s := running .zlibPayload [0x78, 0x9C, 0x4B, 0x04, 0x02, 0x00, 0, 0, 0, 0]
     s.inv = true ∧ s.busy = true ∧ 6 ≤ s.inLen ∧ Ref.streamOk 0 v34 = true ∧
      bytesBits (s.inBuf.bytes 2 (s.inLen - 6)) = Ref.streamBits v34 ++ bits "00" ∧
      Ref.expand s.output v34 = some (hx [0x61, 0x61, 0x61, 0x61]) ∧ s.maxOut = 0) := by decide +kernel

theorem witness_CompressZlibWrapsCompress : (0#4).toNat ≤ 9 ∧ (9#4).toNat ≤ 9 := by decide

/-- Each clause of the order: too short, bad header, header but no trailer, and a payload that fails or succeeds. -/
theorem witness_DecompressZlibChecksInOrder :
    (machine 0x04 [0x78] 0).inLen < 2 ∧ 2 ≤ (machine 0x04 [0x78, 0x9D] 0).inLen ∧
    Ref.headerOk 0x78#8 0x9D#8 = false ∧ (machine 0x04 [0x78, 0x9C, 3, 0, 0] 0).inLen < 6 ∧
    Ref.headerOk ((machine 0x04 [0x78, 0x9C, 3, 0, 0] 0).inBuf.read 0)
      ((machine 0x04 [0x78, 0x9C, 3, 0, 0] 0).inBuf.read 1) = true ∧
    6 ≤ (machine 0x04 [0x78, 0x9C, 3, 0, 0, 0, 0, 1] 0).inLen ∧
    (machine 0x02 [3, 0] 0).input = (machine 0x04 [0x78, 0x9C, 3, 0, 0, 0, 0, 1] 0).inBuf.bytes 2 2 ∧
    (∃ u, exec (.decompress 0#4) (machine 0x02 [3, 0] 0) = .next u ∧ u.ok = true) ∧
    (∃ u, exec (.decompress 0#4) (machine 0x02 [5] 0) = .next u ∧ (!u.ok) = true) := by
  refine ⟨by decide, by decide, by decide +kernel, by decide, by decide +kernel, by decide, by decide +kernel,
    next_of_ends (p := fun u => u.ok) (by decide +kernel), next_of_ends (p := fun u => !u.ok) (by decide +kernel)⟩

theorem witness_DecompressZlibExpandsStreams :
    let s := machine 0x04 [0x78, 0x9C, 0x4B, 0x04, 0x02, 0x00, 0x03, 0xCE, 0x01, 0x85] 0
    s.memoriesOk = true ∧ Ref.headerOk 0x78#8 0x9C#8 = true ∧
      s.input = [0x78#8, 0x9C#8] ++ hx [0x4B, 0x04, 0x02, 0x00] ++ Ref.bigEndian 0x03CE0185#32 ∧
      Ref.streamOk 0 v34 = true ∧ bytesBits (hx [0x4B, 0x04, 0x02, 0x00]) = Ref.streamBits v34 ++ bits "00" ∧
      Ref.expand [] v34 = some (hx [0x61, 0x61, 0x61, 0x61]) ∧ s.maxOut = 0 ∧
      Ref.adler (hx [0x61, 0x61, 0x61, 0x61]) = 0x03CE0185#32 := by decide +kernel

theorem witness_ZlibRoundTrip :
    ∃ s t r : State, exec (.compressZlib 6#4) s = .next t ∧ r.maxOut = 0 ∧ r.input = t.output ∧
      (0#32 ≠ Ref.adler s.input ∧ ∃ r' : State, r'.input = t.output.take (t.outLen - 4) ++ Ref.bigEndian 0#32) := by
  refine ⟨State.reset, _, { State.reset with inBuf := _, inLen := _ }, rfl, rfl, rfl, by decide +kernel,
    ⟨{ State.reset with
        inBuf := Memory.ofBytes (hx [0x78, 0x9C, 3, 0, 0, 0, 0, 0]), inLen := 8 }, by decide +kernel⟩⟩

theorem witness_AdlerStepUsesTheNewA :
    State.reset.a.toNat ≤ 65520 ∧ ({ State.reset with a := 65520#16, b := 65520#16 } : State).b.toNat ≤ 65520 ∧
      (start State.reset).a = 1#16 ∧ (start State.reset).b = 0#16 := by decide

theorem witness_Adler32CommandGivesTheClosedForm : State.reset.inLen = 0 := rfl

theorem witness_DecodeChannelUnescapes :
    Ref.unescape (machine 0x06 [0x01, 0x03, 0x00] 0).input = some (hx [0xFF, 0x00]) ∧
      Ref.unescape (machine 0x06 [0x41, 0x01] 0).input = none := by decide +kernel

theorem witness_ChannelRoundTrip :
    ∃ s t r : State, s.input = hx [0x00] ∧ exec (.encodeChannel 0#4) s = .next t ∧ r.input = t.output ∧
      ∃ u, exec (.encodeChannel 0#4) r = .next u :=
  ⟨machine 0x05 [0x00] 0, _, { State.reset with inBuf := _, inLen := _ }, by decide +kernel, rfl, rfl, _, rfl⟩

theorem witness_clean_data : ∀ x ∈ (machine 0x05 [0x41, 0x02] 0).input, x ≠ 0x00#8 ∧ x ≠ 0x01#8 ∧ x ≠ 0xFF#8 := by
  decide +kernel

/-- Every clause: a group being filled and one completed, after padding, and the ends of the text. -/
theorem witness_Base64CharactersShiftIntoTheGroup :
    (running .print []).gcnt.toNat ≤ 3 ∧ (running .print []).outBuf.wf = true ∧ (running .print []).micro = .print ∧
    (running .print []).gcnt.toNat < 3 ∧ ({ running .print [] with gcnt := 3#3 } : State).gcnt = 3#3 ∧
    (running (.printPad 1) []).micro = .printPad (0 + 1) ∧
    (0x41 ≤ (0x41#8).toNat ∧ (0x5A#8).toNat ≤ 0x5A) ∧ (0x61 ≤ (0x61#8).toNat ∧ (0x7A#8).toNat ≤ 0x7A) ∧
    (0x30 ≤ (0x30#8).toNat ∧ (0x39#8).toNat ≤ 0x39) ∧
    (running .print []).busy = true ∧ (running .print []).inLen ≤ (running .print []).ipos ∧
    (running (.printPad 3) []).busy = true ∧ (running (.printPad 3) []).micro = .printPad 3 ∧ 2 < 3 := by decide +kernel

theorem witness_DecodePrintIsTheTwoPassDecoding :
    Ref.unbase64 (machine 0x08 [0x51, 0x51, 0x20, 0x3D, 0x3D] 0).input = some (hx [0x41]) ∧
      Ref.unbase64 (machine 0x08 [0x51, 0x51, 0x3D] 0).input = none := by decide +kernel

theorem witness_PrintRoundTripWithNoise :
    (∃ s t r : State, exec (.encodePrint 0#4) s = .next t ∧ r.input = t.output) ∧
    (machine 0x08 [0x5A, 0x0A, 0x67, 0x3D, 0x20, 0x3D] 0).input.filter (fun c => !Ref.isSpace c) =
      Ref.base64 (hx [0x66]) :=
  ⟨⟨machine 0x07 [0x66] 0, _, { State.reset with inBuf := _, inLen := _ }, rfl, rfl⟩, by decide +kernel⟩

theorem witness_FindMatchIsLongestAndNearest :
    1 < (machine 0x61 [0x61, 0x61, 0x61, 0x61] 0).inLen ∧
    3 ≤ (findMatch 1 (machine 0x61 [0x61, 0x61, 0x61, 0x61] 0)).bestLen.toNat ∧
    (findMatch 0 (machine 0x61 [0x61, 0x61, 0x61, 0x61] 0)).bestLen.toNat < 3 := by decide +kernel

theorem witness_CompressFixedWritesTheGreedyParse :
    (machine 0x61 [0x61, 0x61] 0).memoriesOk = true ∧ (1#4) ≠ 0#4 ∧ (9#4) ≠ 0#4 := by decide +kernel

theorem witness_CompressRoundTrip :
    ∃ s t r : State, (6#4).toNat ≤ 9 ∧ exec (.compress 6#4) s = .next t ∧ r.input = t.output ∧ r.maxOut = 0 :=
  ⟨machine 0x61 [0x61, 0x61, 0x61, 0x61] 0, _, { State.reset with inBuf := _, inLen := _ }, by decide, rfl, rfl, rfl⟩

theorem witness_EveryCommandEnds : State.reset.busy = false := by decide

theorem witness_InvariantIsKept :
    State.reset.inv = true ∧ (running .litLen [0x71]).inv = true ∧
    (∃ t, step (running .litLen [0x71]) = .next t ∧ t.busy = true) ∧
    hostWriteCmd 0x61#8 State.reset = some { State.reset with cmd := 0x61#8 } ∧
    hostLoad [0x61#8] State.reset = some { State.reset with inBuf := Memory.ofBytes [0x61#8], inLen := 1 } :=
  ⟨by decide, by decide +kernel, next_of_ends (p := fun t => t.busy) (by decide +kernel), rfl, rfl⟩

theorem witness_TheEngineNeverWritesItsInputs :
    (∃ t, exec .esc00 State.reset = .next t) ∧ ∃ t, step State.reset = .next t := ⟨⟨_, rfl⟩, ⟨_, rfl⟩⟩

theorem witness_FailureKindsOfEachCommand :
    (∃ t, exec (.compress 6#4) State.reset = .next t) ∧
    (∃ t, exec (.decompress 0#4) (machine 0x02 [5] 0) = .next t ∧ (t.err == 2#4) = true) ∧
    (∃ t, exec (.decompressZlib 0#4) (machine 0x04 [0x78] 0) = .next t ∧ (t.err == 1#4) = true) ∧
    (∃ t, exec (.decodeChannel 0#4) (machine 0x06 [1] 0) = .next t ∧ (t.err == 6#4) = true) ∧
    ∃ t, exec (.decodePrint 0#4) (machine 0x08 [0x2A] 0) = .next t ∧ (t.err == 7#4) = true := by
  refine ⟨⟨_, rfl⟩, next_of_ends (by decide +kernel), next_of_ends (by decide +kernel), next_of_ends (by decide +kernel),
    next_of_ends (by decide +kernel)⟩

theorem witness_ResultRegisterAfterEachCommand :
    decodeCommand (machine 0x09 [0x61] 0).cmd = .adler32 0#4 ∧ decodeCommand 0x63#8 = .compressZlib 6#4 ∧
    decodeCommand 0x04#8 = .decompressZlib 0#4 ∧ (machine 0x09 [0x61] 0).busy = false ∧
    (∃ t, step (machine 0x04 [0x78, 0x9C, 3, 0, 0, 0, 0, 1] 0) = .next t ∧ t.ok = true) ∧
    (∃ t, step (machine 0x04 [0x78, 0x9C, 3, 0, 0, 0, 0, 2] 0) = .next t ∧ (t.err == 5#4) = true) ∧
    (∃ t, step (machine 0x04 [0x78] 0) = .next t ∧ (!t.ok && t.err == 1#4) = true) ∧
    decodeCommand (machine 0x05 [0x61] 0).cmd = .encodeChannel 0#4 := by
  refine ⟨by decide +kernel, by decide +kernel, by decide +kernel, by decide, next_of_ends (p := fun t => t.ok)
    (by decide +kernel), next_of_ends (by decide +kernel), next_of_ends (by decide +kernel), by decide +kernel⟩

theorem witness_CommandsAreFunctionsOfTheirArguments :
    let s := machine 0x02 [0x03, 0x00] 0
    let s' := { s with inBuf := s.inBuf.write 9 0x77#8, sym := 3#9, outLen := 5, status := 0x32#8, draws := 4 }
    s.busy = false ∧ s'.busy = false ∧ s.cmd = s'.cmd ∧ Ref.sameArguments s s' ∧
      (∃ t, step s = .next t ∧ t.ok = true) ∧ ∃ t, step s' = .next t ∧ t.ok = true := by
  refine ⟨by decide, by decide, rfl, ⟨by decide +kernel, rfl, rfl⟩, next_of_ends (p := fun t => t.ok) (by decide +kernel),
    next_of_ends (p := fun t => t.ok) (by decide +kernel)⟩

theorem witness_MaxOutBoundsOnlyTheDecompressors :
    (∃ t, exec (.decompress 0#4) (machine 0x02 [0x4B, 0x04, 0x00] 1) = .next t ∧ t.ok = true) ∧
    (machine 0x02 [0x4B, 0x04, 0x00] 1).maxOut ≠ 0 ∧ (Instr.adler32 0#4).ctx = none ∧
    (∀ level, Instr.adler32 0#4 ≠ .decompress level ∧ Instr.adler32 0#4 ≠ .decompressZlib level) ∧
    ∃ t, exec (.adler32 0#4) State.reset = .next t :=
  ⟨next_of_ends (p := fun t => t.ok) (by decide +kernel), by decide, rfl, by decide, _, rfl⟩

theorem witness_ExpansionIsBounded :
    ∃ t, exec (.decompress 0#4) (machine 0x02 [0x4B, 0x04, 0x00] 0) = .next t ∧ t.ok = true :=
  next_of_ends (p := fun t => t.ok) (by decide +kernel)

theorem witness_OutputSizesAreWithinTheStatedBounds :
    (9#4) ≠ 0#4 ∧ (∃ t, exec (.compress 0#4) State.reset = .next t) ∧ (∃ t, exec (.compressZlib 9#4) State.reset = .next t) ∧
    (∃ t, exec (.encodeChannel 9#4) State.reset = .next t) ∧ (∃ t, exec (.encodePrint 9#4) State.reset = .next t) ∧
    (∃ t, exec (.decodeChannel 9#4) State.reset = .next t ∧ t.ok = true) ∧
    (∃ t, exec (.decodePrint 9#4) State.reset = .next t ∧ t.ok = true) :=
  ⟨by decide, ⟨_, rfl⟩, ⟨_, rfl⟩, ⟨_, rfl⟩, ⟨_, rfl⟩, next_of_ends (p := fun t => t.ok) (by decide +kernel),
    next_of_ends (p := fun t => t.ok) (by decide +kernel)⟩

end Sys2Proof.Tests
end

section
/-! PROOFS. How many bits an element takes (40_bitstream.md R136, 44_deflate_decoder.md R223): what the decoders read lies in front
of what they leave, and it is never nothing but for the zlib payload. -/

namespace Sys2Proof

theorem takeLsb_length {n v : Nat} {bs rest : List Bool} (h : takeLsb n bs = some (v, rest)) :
    rest.length + n = bs.length := by
  induction n generalizing bs v with
  | zero => cases h; rfl
  | succ n ih =>
    cases bs with
    | nil => cases h
    | cons b bs =>
      simp only [takeLsb, Option.map_eq_some_iff, Prod.mk.injEq] at h
      obtain ⟨⟨v', rest'⟩, hr, _, rfl⟩ := h
      have := ih hr
      simp only [List.length_cons] at this ⊢; omega

theorem takeMsb_length {n acc v : Nat} {bs rest : List Bool} (h : takeMsb n acc bs = some (v, rest)) :
    rest.length + n = bs.length := by
  induction n generalizing acc bs with
  | zero => cases h; rfl
  | succ n ih =>
    cases bs with
    | nil => cases h
    | cons b bs =>
      have := ih h
      simp only [List.length_cons]; omega

theorem takeByte_length {x : Byte} {bs rest : List Bool} (h : takeByte bs = some (x, rest)) :
    rest.length + 8 = bs.length := by
  simp only [takeByte, Option.map_eq_some_iff, Prod.mk.injEq] at h
  obtain ⟨⟨v, rest'⟩, hr, _, rfl⟩ := h
  exact takeLsb_length hr

theorem takeBytes_length_le (n : Nat) (bs : List Bool) : (takeBytes n bs).2.length ≤ bs.length := by
  induction n generalizing bs with
  | zero => exact Nat.le_refl _
  | succ n ih =>
    rw [takeBytes]
    split
    · exact Nat.le_refl _
    · rename_i x rest hb
      have := takeByte_length hb
      have := ih rest
      dsimp only; omega

theorem decodeLitLenFrom_length_lt {fuel len code sym : Nat} {bs rest : List Bool}
    (h : decodeLitLenFrom fuel len code bs = some (sym, rest)) : rest.length < bs.length := by
  induction fuel generalizing len code bs with
  | zero => cases h
  | succ fuel ih =>
    cases bs with
    | nil => cases h
    | cons b bs =>
      rw [decodeLitLenFrom] at h
      split at h
      · cases h; exact Nat.lt_succ_self _
      · exact Nat.lt_succ_of_lt (ih h)

theorem decodeBlockHeader_length_lt {bs rest : List Bool} {i : Instr} (h : decodeBlockHeader bs = .ok (i, rest)) :
    rest.length < bs.length := by
  unfold decodeBlockHeader at h
  split at h
  · cases h
  · rename_i f r hf
    split at h
    · cases h
    · rename_i t r' ht
      cases h
      have := takeLsb_length hf
      have := takeLsb_length ht
      omega

theorem decodeStoredBody_length_lt {p : Nat} {bs rest : List Bool} {i : Instr} (h : decodeStoredBody p bs = .ok (i, rest)) :
    rest.length < bs.length := by
  unfold decodeStoredBody at h
  dsimp only at h
  split at h
  · cases h
  · rename_i len r hlen
    split at h
    · cases h
    · rename_i nlen r' hnlen
      cases h
      have := takeLsb_length hlen
      have := takeLsb_length hnlen
      have := takeBytes_length_le len r'
      rw [List.length_drop] at *
      omega

theorem decodeLitLenElement_length_lt {bs rest : List Bool} {i : Instr} (h : decodeLitLenElement bs = .ok (i, rest)) :
    rest.length < bs.length := by
  unfold decodeLitLenElement at h
  split at h
  · cases h
  · rename_i sym r hsym
    have hcode := decodeLitLenFrom_length_lt hsym
    split_ifs at h
    on_goal 4 =>
      split at h
      · cases h
      · rename_i e r' he
        simp only [Except.ok.injEq, Prod.mk.injEq] at h
        obtain ⟨-, rfl⟩ := h
        have := takeLsb_length he
        omega
    all_goals cases h; exact hcode

theorem decodeDistanceElement_length_lt {bs rest : List Bool} {i : Instr} (h : decodeDistanceElement bs = .ok (i, rest)) :
    rest.length < bs.length := by
  unfold decodeDistanceElement at h
  split at h
  · cases h
  · rename_i j r hj
    split at h
    · cases h
    · rename_i e r' he
      cases h
      have := takeMsb_length hj
      have := takeLsb_length he
      omega

theorem decodeEscape_length_le {bs rest : List Bool} {i : Instr} (h : decodeEscape bs = .ok (i, rest)) :
    rest.length + 8 ≤ bs.length := by
  unfold decodeEscape at h
  split at h
  · split at h <;> cases h
  · rename_i x r hx
    have hx := takeByte_length hx
    split at h
    · cases h; omega
    · split at h
      · cases h; omega
      · rename_i f r' hf
        cases h
        have := takeByte_length hf
        omega

theorem decodePrintChar_length {bs rest : List Bool} {i : Instr} (h : decodePrintChar bs = .ok (i, rest)) :
    rest.length + 8 = bs.length := by
  unfold decodePrintChar at h
  split at h
  · split at h <;> cases h
  · rename_i c r hc
    cases h
    exact takeByte_length hc

end Sys2Proof
end

section
/-! PROOFS. The fetches of a running decoder, told apart by the cursor they read at (10_state.md R29, R31): the DEFLATE decoder's
bits and the text decoders' bytes. -/

namespace Sys2Proof

/-- The contexts of the DEFLATE decoder, which reads at the bit cursor. -/
def StreamCtx.readsBits : StreamCtx → Bool
  | .blockHeader | .storedBody | .litLen | .distance => true
  | .zlibCmf | .zlibFlg | .zlibPayload | .zlibTrailer | .escape | .print | .printPad _ => false

/-- The contexts of the channel and print decoders, which read whole bytes at `ipos`. -/
def StreamCtx.readsBytes : StreamCtx → Bool
  | .escape | .print | .printPad _ => true
  | .blockHeader | .storedBody | .litLen | .distance | .zlibCmf | .zlibFlg | .zlibPayload | .zlibTrailer => false

theorem decodeStream_bits {c : StreamCtx} {p : Nat} {bs rest : List Bool} {i : Instr} (hc : c.readsBits = true)
    (h : decodeStream c p bs = .ok (i, rest)) : i.ctx = some c ∧ rest.length < bs.length := by
  cases c with
  | blockHeader => exact ⟨Machine.decodeBlockHeader_ctx h, decodeBlockHeader_length_lt h⟩
  | storedBody => exact ⟨Machine.decodeStoredBody_ctx h, decodeStoredBody_length_lt h⟩
  | litLen => exact ⟨Machine.decodeLitLenElement_ctx h, decodeLitLenElement_length_lt h⟩
  | distance => exact ⟨Machine.decodeDistanceElement_ctx h, decodeDistanceElement_length_lt h⟩
  | _ => cases hc

/-- Only the byte-oriented streams have an end that is no failure. -/
theorem decodeStream_bits_ne_endOfInput {c : StreamCtx} (hc : c.readsBits = true) (p : Nat) (bs : List Bool) :
    decodeStream c p bs ≠ .error .endOfInput := by
  cases c with
  | blockHeader | storedBody | litLen | distance =>
    simp only [decodeStream, decodeBlockHeader, decodeStoredBody, decodeLitLenElement, decodeDistanceElement]
    repeat' split
    all_goals simp
  | _ => cases hc

theorem decodeStream_bytes {c : StreamCtx} {p : Nat} {bs rest : List Bool} {i : Instr} (hc : c.readsBytes = true)
    (h : decodeStream c p bs = .ok (i, rest)) :
    (i.ctx = some .escape ∨ i.ctx = some .print) ∧ rest.length + 8 ≤ bs.length := by
  cases c with
  | escape => exact ⟨.inl (Machine.decodeEscape_ctx h), decodeEscape_length_le h⟩
  | print => exact ⟨.inr (Machine.decodePrintChar_ctx h), (decodePrintChar_length h).le⟩
  | printPad _ => exact ⟨.inr (Machine.decodePrintChar_ctx h), (decodePrintChar_length h).le⟩
  | _ => cases hc

end Sys2Proof

namespace Sys2Proof.Machine

theorem inflating_eq (s : State) : inflating s = (s.busy && s.micro.readsBits) := by
  unfold inflating; cases s.micro <;> rfl

theorem unreadBits_of_readsBits {s : State} (h : s.micro.readsBits = true) : unreadBits s = readerBits s := by
  unfold unreadBits
  cases hm : s.micro with
  | blockHeader | storedBody | litLen | distance => rfl
  | _ => rw [hm] at h; cases h

theorem moveCursor_of_readsBits {s : State} (h : s.micro.readsBits = true) (n : Nat) : moveCursor n s = advanceBits n s := by
  unfold moveCursor
  cases hm : s.micro with
  | blockHeader | storedBody | litLen | distance => rfl
  | _ => rw [hm] at h; cases h

theorem length_unreadBits_of_readsBytes {s : State} (h : s.micro.readsBytes = true) :
    (unreadBits s).length = 8 * (s.inLen - s.ipos) := by
  unfold unreadBits
  cases hm : s.micro with
  | escape | print | printPad => simp
  | _ => rw [hm] at h; cases h

theorem moveCursor_of_readsBytes {s : State} (h : s.micro.readsBytes = true) (n : Nat) :
    moveCursor n s = { s with ipos := s.ipos + n / 8 } := by
  unfold moveCursor
  cases hm : s.micro with
  | escape | print | printPad => rfl
  | _ => rw [hm] at h; cases h

theorem bitsLeft_advanceBits (n : Nat) (s : State) : bitsLeft (advanceBits n s) = bitsLeft s - n := by
  simp only [bitsLeft, advanceBits_rend, advanceBits_rpos, advanceBits_rbit, BitVec.toNat_ofNat]
  omega

/-- What a DEFLATE decoder can meet: a cut element, or an element of its context that takes at least one of the bits left
(44_deflate_decoder.md R223). -/
theorem fetch_bits {s : State} (hc : s.micro.readsBits = true) :
    fetch s = .failed .truncatedStream (cutElement s) ∨
      ∃ i n, fetch s = .element i (advanceBits n s) ∧ i.ctx = some s.micro ∧ 0 < n ∧ n ≤ bitsLeft s := by
  unfold fetch
  cases hd : decodeStream s.micro s.rbit.toNat (unreadBits s) with
  | ok p =>
    obtain ⟨i, rest⟩ := p
    obtain ⟨hi, hlt⟩ := decodeStream_bits hc hd
    have hlen : (unreadBits s).length = bitsLeft s := by rw [unreadBits_of_readsBits hc, length_readerBits]
    refine .inr ⟨i, (unreadBits s).length - rest.length, ?_, hi, by omega, by omega⟩
    simp only [moveCursor_of_readsBits hc]
  | error e =>
    cases e with
    | truncated => exact .inl rfl
    | endOfInput => exact absurd hd (decodeStream_bits_ne_endOfInput hc _ _)

/-- What a text decoder can meet: the end of its input, a cut element, or an element that takes at least one of the bytes left. -/
theorem fetch_bytes {s : State} (hc : s.micro.readsBytes = true) :
    fetch s = .endOfInput ∨ (∃ t, fetch s = .failed .truncatedStream t) ∨
      ∃ i n, fetch s = .element i { s with ipos := s.ipos + n } ∧ (i.ctx = some .escape ∨ i.ctx = some .print) ∧
        0 < n ∧ n ≤ s.inLen - s.ipos := by
  unfold fetch
  cases hd : decodeStream s.micro s.rbit.toNat (unreadBits s) with
  | ok p =>
    obtain ⟨i, rest⟩ := p
    obtain ⟨hi, hle⟩ := decodeStream_bytes hc hd
    have hlen := length_unreadBits_of_readsBytes hc
    refine .inr (.inr ⟨i, ((unreadBits s).length - rest.length) / 8, ?_, hi, by omega, by omega⟩)
    simp only [moveCursor_of_readsBytes hc]
  | error e =>
    cases e with
    | truncated => exact .inr (.inl ⟨_, rfl⟩)
    | endOfInput => exact .inl rfl

end Sys2Proof.Machine
end

section
/-! PROOFS. What the elements of each stream can do to the state of a running decoder, said once per stream. -/

namespace Sys2Proof.Machine

/-! ### Elements of a DEFLATE stream -/

/-- Everything an element of a DEFLATE stream can do to the state its bits have been read in (44_deflate_decoder.md R213 to
R219). -/
inductive DeflateMove (s : State) : State → Prop
  | storedHeader (bfinal : BitVec 1) : DeflateMove s (latchHeader bfinal 0#2 .storedBody s)
  | fixedHeader (bfinal : BitVec 1) : DeflateMove s (latchHeader bfinal 1#2 .litLen s)
  | unsupportedHeader (bfinal : BitVec 1) (btype : BitVec 2) : DeflateMove s (unsupportedBlock bfinal btype s)
  | storedBody (len : BitVec 16) (data : List Byte) : DeflateMove s (storedBlock len data s).state
  | literal (x : Byte) : DeflateMove s (literalElement x s).state
  | endOfBlock : DeflateMove s (endBlock { s with sym := 256#9 })
  | reserved : DeflateMove s (raise .invalidSymbol s)
  | length (i e : Nat) : DeflateMove s (lengthElement i e s)
  | distance (j e : Nat) : DeflateMove s (distanceElement j e s).state

/-- Every element of a DEFLATE stream goes on, and does one of the things of `DeflateMove`, whichever of the machine's two tables of
meanings runs it. -/
theorem deflateElement_next {i : Instr} {c : StreamCtx} (hi : i.ctx = some c) (hc : c.readsBits = true) (s : State) :
    ∃ t, deflateElement i s = .next t ∧ exec i s = .next t ∧ DeflateMove s t := by
  cases i with
  | blockStored f => exact ⟨_, rfl, rfl, .storedHeader f⟩
  | blockFixed f => exact ⟨_, rfl, rfl, .fixedHeader f⟩
  | blockDynamic f | blockReserved f => exact ⟨_, rfl, rfl, .unsupportedHeader f _⟩
  | storedBody _ len _ data => exact ⟨_, rfl, rfl, .storedBody len data⟩
  | literal0To143 x | literal144To255 x => exact ⟨_, rfl, rfl, .literal x⟩
  | eob => exact ⟨_, rfl, rfl, .endOfBlock⟩
  | litlenReserved286 | litlenReserved287 | distanceReserved30 | distanceReserved31 => exact ⟨_, rfl, rfl, .reserved⟩
  | length257 | length258 | length259 | length260 | length261 | length262 | length263 | length264 | length265
  | length266 | length267 | length268 | length269 | length270 | length271 | length272 | length273 | length274
  | length275 | length276 | length277 | length278 | length279 | length280 | length281 | length282 | length283
  | length284 | length285 => exact ⟨_, rfl, rfl, .length _ _⟩
  | distance0 | distance1 | distance2 | distance3 | distance4 | distance5 | distance6 | distance7 | distance8
  | distance9 | distance10 | distance11 | distance12 | distance13 | distance14 | distance15 | distance16 | distance17
  | distance18 | distance19 | distance20 | distance21 | distance22 | distance23 | distance24 | distance25 | distance26
  | distance27 | distance28 | distance29 => exact ⟨_, rfl, rfl, .distance _ _⟩
  | _ => cases hi <;> cases hc

/-- From `s` the DEFLATE decoder went on to `t` without reading: its caller is the same, and where the command still runs, the bits
left are the same and the decoder reads its next element or has returned to `DECOMPRESS_ZLIB` (45_zlib.md R245). -/
def GoesOn (s t : State) : Prop :=
  t.zlib = s.zlib ∧
    (t.busy = true → bitsLeft t = bitsLeft s ∧ (t.micro.readsBits = true ∨ t.zlib = true ∧ t.micro = .zlibTrailer))

theorem goesOn_raise (k : ErrorKind) {s t : State} (h : t.zlib = s.zlib) : GoesOn s (raise k t) :=
  ⟨by rw [raise_zlib, h], fun hb => absurd hb (by simp)⟩

theorem goesOn_endBlock {s t : State} (hz : t.zlib = s.zlib) (hb : bitsLeft t = bitsLeft s) : GoesOn s (endBlock t) := by
  unfold endBlock
  split
  · split
    next h => exact ⟨hz, fun _ => ⟨hb, .inr ⟨h, rfl⟩⟩⟩
    · exact ⟨hz, fun h => absurd h (by simp)⟩
  · exact ⟨hz, fun _ => ⟨hb, .inl rfl⟩⟩

/-- Producing output alone does not move the reader. -/
theorem onlyOutput_reader {s t : State} (h : onlyOutput s t) :
    t.zlib = s.zlib ∧ t.micro = s.micro ∧ bitsLeft t = bitsLeft s := by
  rw [h]; exact ⟨rfl, rfl, rfl⟩

theorem goesOn_of_onlyOutput {s u t : State} (h : onlyOutput u t) (hz : u.zlib = s.zlib)
    (hb : bitsLeft u = bitsLeft s) (hm : u.micro.readsBits = true) : GoesOn s t := by
  obtain ⟨hz', hm', hb'⟩ := onlyOutput_reader h
  exact ⟨hz'.trans hz, fun _ => ⟨hb'.trans hb, .inl (hm' ▸ hm)⟩⟩

theorem goesOn_storedBlock (len : BitVec 16) (data : List Byte) (s : State) : GoesOn s (storedBlock len data s).state := by
  unfold storedBlock
  dsimp only
  split
  · rename_i hp
    obtain ⟨hz, -, hb⟩ := onlyOutput_reader (putAll_ok hp).1
    split
    · exact goesOn_raise _ hz
    · exact goesOn_endBlock hz hb
  · rename_i hp
    obtain ⟨u, hu, -, -, rfl⟩ := putAll_error hp
    have hbusy := raise_busy .outputLimitExceeded u
    exact ⟨(raise_zlib _ u).trans (onlyOutput_reader hu).1, fun h => absurd (hbusy.symm.trans h) (by simp)⟩

theorem goesOn_literalElement (x : Byte) (s : State) : GoesOn s (literalElement x s).state := by
  unfold literalElement
  rcases put_cases x { s with sym := x.setWidth 9, micro := .litLen } with ⟨-, hp⟩ | ⟨-, hp⟩ <;> rw [hp]
  · exact goesOn_of_onlyOutput (onlyOutput_put x _) rfl rfl rfl
  · exact goesOn_raise _ rfl

theorem goesOn_distanceElement (j e : Nat) (s : State) : GoesOn s (distanceElement j e s).state := by
  unfold distanceElement
  dsimp only
  split
  · exact goesOn_raise _ rfl
  · generalize hf : copyBytes _ _ _ = f
    cases f with
    | ok t => exact goesOn_of_onlyOutput (copyBytes_ok hf).1 rfl rfl rfl
    | error t =>
      obtain ⟨u, hu, -, -, rfl⟩ := copyBytes_error hf
      exact goesOn_raise _ (onlyOutput_reader hu).1

theorem DeflateMove.goesOn {s t : State} (h : DeflateMove s t) : GoesOn s t := by
  cases h with
  | storedHeader | fixedHeader | length => exact ⟨rfl, fun _ => ⟨rfl, .inl rfl⟩⟩
  | unsupportedHeader | reserved => exact goesOn_raise _ rfl
  | storedBody len data => exact goesOn_storedBlock len data s
  | literal x => exact goesOn_literalElement x s
  | endOfBlock => exact goesOn_endBlock rfl rfl
  | distance j e => exact goesOn_distanceElement j e s

/-! ### Elements of a channel-safe stream and of a text -/

/-- An element of a channel-safe stream gives a byte or is refused (47_channel_escaper.md R272). -/
theorem exec_escape {i : Instr} (hi : i.ctx = some .escape) (s : State) :
    (∃ x, exec i s = .next (append x s)) ∨ exec i s = .next (raise .invalidEscape s) := by
  cases i with
  | esc00 | esc01 | escFF | escPlain => exact .inl ⟨_, rfl⟩
  | escInvalid => exact .inr rfl
  | _ => cases hi

/-- A character of a text is in the alphabet, or padding, or whitespace, or refused (48_base64.md R285, R288). -/
theorem exec_print {i : Instr} (hi : i.ctx = some .print) (s : State) :
    (∃ c, exec i s = .next (alphabetChar c s)) ∨ exec i s = .next { s with micro := .printPad (padCount s + 1) } ∨
      exec i s = .next s ∨ exec i s = .next (raise .invalidBase64 s) := by
  cases i with
  | b64Upper | b64Lower | b64Digit | b64Plus | b64Slash => exact .inl ⟨_, rfl⟩
  | b64Pad => exact .inr (.inl rfl)
  | b64Ws => exact .inr (.inr (.inl rfl))
  | b64Invalid => exact .inr (.inr (.inr rfl))
  | _ => cases hi

/-- A character that must be in the alphabet is shifted into the group or refused (48_base64.md R285). -/
theorem alphabetChar_cases (c : Byte) (s : State) :
    (∃ k, alphabetChar c s = shiftIndex k s) ∨ alphabetChar c s = raise .invalidBase64 s := by
  unfold alphabetChar
  split
  · exact .inr rfl
  · split
    · exact .inl ⟨_, rfl⟩
    · exact .inr rfl

theorem shiftIndex_frame (k : Nat) (s : State) :
    shiftIndex k s = { s with
      grp := (shiftIndex k s).grp, gcnt := (shiftIndex k s).gcnt, outBuf := (shiftIndex k s).outBuf,
      outLen := (shiftIndex k s).outLen } := by
  unfold shiftIndex
  dsimp only
  split
  · rw [appendAll_frame]
  · rfl

/-- A text decoder that still runs in `t` stands where it stood in `s`, in a context of its own. -/
def GoesOnInText (s t : State) : Prop :=
  t.busy = true → t.inLen = s.inLen ∧ t.ipos = s.ipos ∧ t.micro.readsBytes = true

theorem goesOnInText_raise (k : ErrorKind) (s t : State) : GoesOnInText s (raise k t) := fun h => absurd h (by simp)

theorem goesOnInText_shiftIndex (k : Nat) {s : State} (hs : s.micro.readsBytes = true) : GoesOnInText s (shiftIndex k s) := by
  rw [shiftIndex_frame]; exact fun _ => ⟨rfl, rfl, hs⟩

/-- Every element of a channel-safe stream or a text goes on. -/
theorem exec_text {i : Instr} (hi : i.ctx = some .escape ∨ i.ctx = some .print) {s : State}
    (hs : s.micro.readsBytes = true) : ∃ t, exec i s = .next t ∧ GoesOnInText s t := by
  rcases hi with hi | hi
  · rcases exec_escape hi s with ⟨x, h⟩ | h
    · exact ⟨_, h, fun _ => ⟨rfl, rfl, hs⟩⟩
    · exact ⟨_, h, goesOnInText_raise _ _ _⟩
  · rcases exec_print hi s with ⟨c, h⟩ | h | h | h
    · refine ⟨_, h, ?_⟩
      rcases alphabetChar_cases c s with ⟨k, hk⟩ | hk <;> rw [hk]
      · exact goesOnInText_shiftIndex k hs
      · exact goesOnInText_raise _ _ _
    · exact ⟨_, h, fun _ => ⟨rfl, rfl, rfl⟩⟩
    · exact ⟨_, h, fun _ => ⟨rfl, rfl, hs⟩⟩
    · exact ⟨_, h, goesOnInText_raise _ _ _⟩

/-- The end of a text ends the command (48_base64.md R285). -/
@[simp] theorem endOfText_busy (s : State) : (endOfText s).busy = false := by
  unfold endOfText
  dsimp only
  repeat' split
  all_goals simp

@[simp] theorem endOfInput_busy (s : State) : (endOfInput s).busy = false := by
  unfold endOfInput
  split <;> simp

end Sys2Proof.Machine
end

section
/-! PROOFS. A decoding command is its stream elements run one by one (00_scope.md R16, 10_state.md R28; log 1). Each decoder's loop
has a bound on the rounds still needed that every round lowers, so its fuel is never used up. -/

namespace Sys2Proof

/-- How many elements of the zlib envelope there are from this one on (45_zlib.md R245). -/
def StreamCtx.envelopeRounds : StreamCtx → Nat
  | .zlibCmf => 4
  | .zlibFlg => 3
  | .zlibPayload => 2
  | .zlibTrailer => 1
  | .blockHeader | .storedBody | .litLen | .distance | .escape | .print | .printPad _ => 0

end Sys2Proof

namespace Sys2Proof.Machine

/-! ### Steps of a running command -/

theorem step_element {s s' : State} {i : Instr} (hb : s.busy = true) (hf : fetch s = .element i s') : step s = exec i s' := by
  unfold step streamStepWith; rw [if_pos hb, hf]

theorem step_failed {s s' : State} {k : ErrorKind} (hb : s.busy = true) (hf : fetch s = .failed k s') :
    step s = .next (raise k s') := by
  unfold step streamStepWith; rw [if_pos hb, hf]

theorem step_endOfInput {s : State} (hb : s.busy = true) (hf : fetch s = .endOfInput) : step s = .next (endOfInput s) := by
  unfold step streamStepWith; rw [if_pos hb, hf]

theorem cutElement_zlib (s : State) : (cutElement s).zlib = s.zlib := by rw [cutElement_frame]

/-! ### Loops -/

/-- A loop whose rounds are steps of the machine answers the state these steps reach, where `within n` says of a state that the loop
needs at most `n` rounds more. -/
theorem runWhile_reaches {going : State → Bool} {run : State → Answer} {within : Nat → State → Prop}
    (hzero : ∀ s, within 0 s → going s = false)
    (hround : ∀ n s, within (n + 1) s → going s = true →
      s.busy = true ∧ ∃ t, run s = .next t ∧ step s = .next t ∧ within n t)
    (n : Nat) (s : State) (h : within n s) :
    ∃ k t, runWhile going run n s = .next t ∧ Ref.reaches k s t ∧ going t = false ∧ ∃ m, within m t := by
  induction n generalizing s with
  | zero => exact ⟨0, s, rfl, rfl, hzero s h, 0, h⟩
  | succ n ih =>
    cases hg : going s with
    | false => exact ⟨0, s, by simp [runWhile, hg], rfl, hg, n + 1, h⟩
    | true =>
      obtain ⟨hb, u, hrun, hstep, hu⟩ := hround n s h hg
      obtain ⟨k, t, hloop, hreach, hend⟩ := ih u hu
      exact ⟨k + 1, t, by simpa [runWhile, hg, hrun] using hloop, ⟨hb, u, hstep, hreach⟩, hend⟩

/-! ### The DEFLATE decoder -/

/-- The DEFLATE decoder, called by `DECOMPRESS_ZLIB` or not, needs at most `n` rounds more: each element takes a bit (R223), and a
round is needed to find that none is left. A command that still runs without it is a zlib command at its trailer. -/
def inflatesWithin (zlib : Bool) (n : Nat) (s : State) : Prop :=
  s.zlib = zlib ∧ (inflating s = true → bitsLeft s < n) ∧
    (s.busy = true → inflating s = true ∨ zlib = true ∧ s.micro = .zlibTrailer)

theorem inflatesWithin_raise {z : Bool} {s : State} (h : s.zlib = z) (n : Nat) (k : ErrorKind) :
    inflatesWithin z n (raise k s) :=
  ⟨by rw [raise_zlib, h], fun hg => absurd hg (by simp [inflating_eq]), fun hb => absurd hb (by simp)⟩

/-- A round of the DEFLATE decoder is a step of the machine. -/
theorem inflatesWithin_round {z : Bool} {n : Nat} {s : State} (h : inflatesWithin z (n + 1) s) (hg : inflating s = true) :
    s.busy = true ∧ ∃ t, deflateStep s = .next t ∧ step s = .next t ∧ inflatesWithin z n t := by
  obtain ⟨hz, hleft, -⟩ := h
  have hlt := hleft hg
  rw [inflating_eq, Bool.and_eq_true] at hg
  obtain ⟨hb, hc⟩ := hg
  refine ⟨hb, ?_⟩
  unfold deflateStep
  rcases fetch_bits hc with hf | ⟨i, m, hf, hi, hpos, hle⟩ <;> rw [hf]
  · exact ⟨_, rfl, step_failed hb hf, inflatesWithin_raise ((cutElement_zlib s).trans hz) n _⟩
  · obtain ⟨t, hdeflate, hexec, hmove⟩ := deflateElement_next hi hc (advanceBits m s)
    obtain ⟨hzt, hgo⟩ := hmove.goesOn
    have hbits : t.busy = true → bitsLeft t = bitsLeft s - m := fun hbt => (hgo hbt).1.trans (bitsLeft_advanceBits m s)
    refine ⟨t, hdeflate, (step_element hb hf).trans hexec, hzt.trans hz, fun hgt => ?_, fun hbt => ?_⟩
    · rw [inflating_eq, Bool.and_eq_true] at hgt
      have := hbits hgt.1
      omega
    · rcases (hgo hbt).2 with hct | ⟨hzl, htr⟩
      · exact .inl (by rw [inflating_eq, hbt, hct]; rfl)
      · exact .inr ⟨hz.symm.trans (hzt.symm.trans hzl), htr⟩

/-- The DEFLATE decoder reads element by element until the command ends or the decoder returns to `DECOMPRESS_ZLIB`. -/
theorem inflate_reaches {s : State} (hc : s.micro.readsBits = true) :
    ∃ k t, inflate s = .next t ∧ Ref.reaches k s t ∧ (t.busy = true → s.zlib = true ∧ t.micro = .zlibTrailer) := by
  obtain ⟨k, t, hrun, hreach, hend, m, -, -, hm⟩ := runWhile_reaches (within := inflatesWithin s.zlib)
    (fun t ⟨_, h, _⟩ => Bool.eq_false_iff.2 fun hg => Nat.not_lt_zero _ (h hg))
    (fun _ _ => inflatesWithin_round)
    (bitsLeft s + 1) s ⟨rfl, fun _ => Nat.lt_succ_self _, fun hb => .inl (by rw [inflating_eq, hb, hc]; rfl)⟩
  exact ⟨k, t, hrun, hreach, fun hbt => (hm hbt).resolve_left (by simp [hend])⟩

/-! ### The commands that run by `runStream` -/

/-- `runStream` answers the end of its command, reached by steps, where `within n` says of a running state that its command needs at
most `n` rounds more. -/
theorem runStream_reaches {within : Nat → State → Prop} (hzero : ∀ s, ¬ within 0 s)
    (hstep : ∀ n s, s.busy = true → within (n + 1) s → ∃ t, step s = .next t ∧ (t.busy = true → within n t))
    {n : Nat} {s : State} (h : within n s) :
    ∃ k t, runStream n s = .next t ∧ Ref.reaches k s t ∧ t.busy = false := by
  obtain ⟨k, t, hrun, hreach, hend, -⟩ := runWhile_reaches (going := State.busy) (run := streamStep)
    (within := fun n s => s.busy = true → within n s)
    (fun s h => Bool.eq_false_iff.2 fun hb => hzero s (h hb))
    (fun n s h hb => by
      obtain ⟨t, ht, hw⟩ := hstep n s hb (h hb)
      exact ⟨hb, t, (step_running hb).symm.trans ht, ht, hw⟩)
    n s fun _ => h
  exact ⟨k, t, hrun, hreach, hend⟩

/-! ### The text decoders -/

/-- A text decoder needs at most `n` rounds more: each element takes a byte, and a round is needed to find that none is left. -/
def textWithin (n : Nat) (s : State) : Prop := s.micro.readsBytes = true ∧ s.inLen - s.ipos < n

theorem textWithin_step (n : Nat) (s : State) (hb : s.busy = true) (h : textWithin (n + 1) s) :
    ∃ t, step s = .next t ∧ (t.busy = true → textWithin n t) := by
  obtain ⟨hc, hlt⟩ := h
  rcases fetch_bytes hc with hf | ⟨u, hf⟩ | ⟨i, m, hf, hi, hpos, hle⟩
  · exact ⟨_, step_endOfInput hb hf, fun h => absurd h (by simp)⟩
  · exact ⟨_, step_failed hb hf, fun h => absurd h (by simp)⟩
  · obtain ⟨t, ht, hgo⟩ := exec_text hi (s := { s with ipos := s.ipos + m }) hc
    refine ⟨t, (step_element hb hf).trans ht, fun hbt => ?_⟩
    obtain ⟨hlen, hipos, hct⟩ := hgo hbt
    dsimp only at hlen hipos
    exact ⟨hct, by omega⟩

/-- A text decoder started at its first element reads its text to the end. -/
theorem runStream_text_reaches (s : State) {c : StreamCtx} (hc : c.readsBytes = true) :
    ∃ k t, runStream (s.inLen + 1) { start s with micro := c } = .next t ∧
      Ref.reaches k { start s with micro := c } t ∧ t.busy = false :=
  runStream_reaches (fun _ h => Nat.not_lt_zero _ h.2) textWithin_step ⟨hc, Nat.lt_succ_self s.inLen⟩

/-! ### The zlib envelope -/

/-- The elements of the zlib envelope lie at fixed places: fetching one moves no cursor (45_zlib.md R245). -/
theorem fetch_envelope {s t : State} {i : Instr} (hc : 0 < s.micro.envelopeRounds) (hf : fetch s = .element i t) :
    i.ctx = some s.micro ∧ t = s := by
  unfold fetch at hf
  split at hf
  · rename_i j rest hd
    injection hf with hij hts
    subst hij hts
    unfold moveCursor
    cases hm : s.micro with
    | zlibCmf | zlibFlg =>
      rw [hm] at hd
      obtain ⟨x, rfl⟩ := decodeZlibByte_ok hd
      exact ⟨rfl, rfl⟩
    | zlibPayload => rw [hm] at hd; cases hd; exact ⟨rfl, rfl⟩
    | zlibTrailer => rw [hm] at hd; exact ⟨decodeTrailer_ctx hd, rfl⟩
    | _ => rw [hm] at hc; cases hc
  · cases hf
  · cases hf

theorem execZlibCmf_next (cmf : Byte) (s : State) :
    ∃ t, execZlibCmf cmf s = .next t ∧ (t.busy = true → t.micro = .zlibFlg) := by
  unfold execZlibCmf
  split
  · exact ⟨_, rfl, fun h => absurd h (by simp)⟩
  · split
    · exact ⟨_, rfl, fun _ => rfl⟩
    · exact ⟨_, rfl, fun h => absurd h (by simp)⟩

theorem execZlibFlg_next (flg : Byte) (s : State) :
    ∃ t, execZlibFlg flg s = .next t ∧ (t.busy = true → t.micro = .zlibPayload) := by
  unfold execZlibFlg
  split
  · exact ⟨_, rfl, fun _ => rfl⟩
  · exact ⟨_, rfl, fun h => absurd h (by simp)⟩

theorem execZlibPayload_next (s : State) :
    ∃ t, execZlibPayload s = .next t ∧ (t.busy = true → t.micro = .zlibTrailer) := by
  unfold execZlibPayload
  split
  · exact ⟨_, rfl, fun h => absurd h (by simp)⟩
  · obtain ⟨-, t, ht, -, hend⟩ := inflate_reaches
      (s := atFirstBlock true { s with rbase := 2, rend := s.inLen - 4, rpos := 2, rbit := 0#3 }) rfl
    exact ⟨t, ht, fun hb => (hend hb).2⟩

theorem execZlibAdler32_next (sum : BitVec 32) (s : State) : ∃ t, execZlibAdler32 sum s = .next t ∧ t.busy = false := by
  unfold execZlibAdler32
  refine ⟨_, rfl, ?_⟩
  split
  · exact succeed_busy _
  · exact raise_busy _ _

/-- Every element of the zlib envelope ends the command or leaves the decoder at a later element. -/
theorem exec_envelope {i : Instr} {c : StreamCtx} (hi : i.ctx = some c) (hc : 0 < c.envelopeRounds) (s : State) :
    ∃ t, exec i s = .next t ∧
      (t.busy = true → 0 < t.micro.envelopeRounds ∧ t.micro.envelopeRounds < c.envelopeRounds) := by
  cases i with
  | zlibCmf cmf =>
    cases hi
    obtain ⟨t, ht, hm⟩ := execZlibCmf_next cmf s
    exact ⟨t, ht, fun hb => by rw [hm hb]; decide⟩
  | zlibFlg flg =>
    cases hi
    obtain ⟨t, ht, hm⟩ := execZlibFlg_next flg s
    exact ⟨t, ht, fun hb => by rw [hm hb]; decide⟩
  | zlibPayload =>
    cases hi
    obtain ⟨t, ht, hm⟩ := execZlibPayload_next s
    exact ⟨t, ht, fun hb => by rw [hm hb]; decide⟩
  | zlibAdler32 sum =>
    obtain ⟨t, ht, hend⟩ := execZlibAdler32_next sum s
    exact ⟨t, ht, fun hb => absurd hb (by simp [hend])⟩
  | _ => cases hi <;> cases hc

/-- A zlib command needs at most `n` rounds more, one for each element of its envelope. -/
def envelopeWithin (n : Nat) (s : State) : Prop := 0 < s.micro.envelopeRounds ∧ s.micro.envelopeRounds ≤ n

theorem envelopeWithin_step (n : Nat) (s : State) (hb : s.busy = true) (h : envelopeWithin (n + 1) s) :
    ∃ t, step s = .next t ∧ (t.busy = true → envelopeWithin n t) := by
  obtain ⟨hpos, hle⟩ := h
  cases hf : fetch s with
  | element i u =>
    obtain ⟨hi, rfl⟩ := fetch_envelope hpos hf
    obtain ⟨t, ht, hm⟩ := exec_envelope hi hpos u
    refine ⟨t, (step_element hb hf).trans ht, fun hbt => ?_⟩
    obtain ⟨hpos', hlt⟩ := hm hbt
    exact ⟨hpos', by omega⟩
  | failed k u => exact ⟨_, step_failed hb hf, fun h => absurd h (by simp)⟩
  | endOfInput => exact ⟨_, step_endOfInput hb hf, fun h => absurd h (by simp)⟩

/-- `DECOMPRESS_ZLIB` runs the elements of its envelope to the end. -/
theorem runStream_zlib_reaches (s : State) :
    ∃ k t, runStream 4 { start s with micro := .zlibCmf } = .next t ∧
      Ref.reaches k { start s with micro := .zlibCmf } t ∧ t.busy = false :=
  runStream_reaches (within := envelopeWithin) (fun _ h => absurd h.2 (Nat.not_le.2 h.1)) envelopeWithin_step
    ⟨Nat.succ_pos 3, Nat.le_refl 4⟩

/-! ### The obligation -/

/-- Settles O29: the loop of each decoding command ends before its fuel does, and each of its rounds is a step of the machine. -/
theorem decodersAreIteratedSteps : Obligations.DecodersAreIteratedSteps := by
  intro s level
  refine ⟨?_, ?_, ?_, ?_⟩
  · obtain ⟨k, t, hrun, hreach, hend⟩ := inflate_reaches (s := atFirstBlock false (start s)) rfl
    exact ⟨k, t, hrun, hreach, Bool.eq_false_iff.2 fun hb => absurd (hend hb).1 (by simp)⟩
  · exact runStream_zlib_reaches s
  · exact runStream_text_reaches s rfl
  · exact runStream_text_reaches s rfl

end Sys2Proof.Machine
end

section
/-! PROOFS. The part of the machine's invariant that holds inside a command too, where STATUS and the cursors are on their way:
the canonical memories and the ranges of the datapath registers (10_state.md R30, R33, R34, R36, 20_memory.md R62, R64). -/

namespace Sys2Proof.Machine

/-- The memories are canonical and the datapath registers in their ranges. -/
def State.dataOk (s : State) : Prop := s.memoriesOk = true ∧ s.datapathOk = true

theorem memoriesOk_iff (s : State) :
    s.memoriesOk = true ↔ s.inBuf.wf = true ∧ s.outBuf.wf = true ∧ s.win.wf = true ∧ s.outBuf.below s.outLen = true ∧
      s.win.below Rom.windowSize = true := by
  simp [State.memoriesOk, and_assoc]

theorem datapathOk_iff (s : State) :
    s.datapathOk = true ↔ s.wacc.toNat < 2 ^ s.wcnt.toNat ∧ s.a.toNat < Rom.adlerMod ∧ s.b.toNat < Rom.adlerMod ∧
      s.wfill.toNat ≤ Rom.windowSize ∧ s.gcnt.toNat ≤ 3 := by
  simp [State.datapathOk, and_assoc]

theorem cursorsOk_iff (s : State) :
    s.cursorsOk = true ↔ s.rbase ≤ s.rpos ∧ s.rpos ≤ s.rend ∧ s.rend ≤ s.inLen ∧ (s.rpos = s.rend → s.rbit = 0#3) ∧
      s.ipos ≤ s.inLen := by
  simp [State.cursorsOk, and_assoc, Decidable.imp_iff_not_or]

theorem inv_iff (s : State) :
    s.inv = true ↔ s.statusOk = true ∧ s.dataOk ∧ (s.busy = true → s.cursorsOk = true) := by
  simp [State.inv, State.dataOk, and_assoc, Decidable.imp_iff_not_or]

/-! ### The shared operations keep it -/

theorem start_dataOk {s : State} (h : s.dataOk) : (start s).dataOk := by
  obtain ⟨hmem, hpath⟩ := h
  refine ⟨start_memoriesOk hmem, ?_⟩
  rw [datapathOk_iff] at hpath ⊢
  simp [Rom.adlerMod]

theorem append_dataOk {s : State} (h : s.dataOk) (x : Byte) : (append x s).dataOk := ⟨append_memoriesOk h.1 x, h.2⟩

theorem appendAll_dataOk {s : State} (h : s.dataOk) (xs : List Byte) : (appendAll xs s).dataOk := by
  induction xs generalizing s with
  | nil => exact h
  | cons x xs ih => exact ih (append_dataOk h x)

theorem winPush_dataOk {s : State} (h : s.dataOk) (x : Byte) : (winPush x s).dataOk := by
  obtain ⟨hmem, hpath⟩ := h
  refine ⟨winPush_memoriesOk hmem x, ?_⟩
  rw [datapathOk_iff] at hpath ⊢
  obtain ⟨hacc, ha, hb, -, hgcnt⟩ := hpath
  exact ⟨hacc, ha, hb, by simp [Rom.windowSize]; omega, hgcnt⟩

theorem writeBit_dataOk {s : State} (h : s.dataOk) (bit : Bool) : (writeBit bit s).dataOk := by
  obtain ⟨hmem, hpath⟩ := h
  rw [datapathOk_iff] at hpath
  obtain ⟨hacc, hrest⟩ := hpath
  unfold writeBit
  dsimp only
  split
  · exact ⟨append_memoriesOk hmem _, (datapathOk_iff _).2 ⟨Nat.one_pos, hrest⟩⟩
  · rename_i hfull
    refine ⟨hmem, (datapathOk_iff _).2 ⟨?_, hrest⟩⟩
    have hcnt : (s.wcnt + 1#3).toNat = s.wcnt.toNat + 1 := by bv_omega
    have hbit : bit.toNat * 2 ^ s.wcnt.toNat < 2 ^ (s.wcnt.toNat + 1) := by
      cases bit <;> simp [Nat.pow_succ]
    have hshift : (((BitVec.ofBool bit).setWidth 8) <<< s.wcnt.toNat).toNat ≤ bit.toNat * 2 ^ s.wcnt.toNat := by
      rw [BitVec.toNat_shiftLeft, Nat.shiftLeft_eq]
      refine (Nat.mod_le _ _).trans (Nat.mul_le_mul_right _ ?_)
      cases bit <;> decide
    dsimp only
    rw [hcnt, BitVec.toNat_or]
    exact Nat.or_lt_two_pow (by rw [Nat.pow_succ]; omega) (by omega)

theorem flush_dataOk {s : State} (h : s.dataOk) : (flush s).dataOk := by
  obtain ⟨hmem, hpath⟩ := h
  unfold flush
  split
  · exact ⟨hmem, hpath⟩
  · exact ⟨append_memoriesOk hmem _, (datapathOk_iff _).2 ⟨Nat.one_pos, ((datapathOk_iff _).1 hpath).2⟩⟩

theorem adlerStep_dataOk {s : State} (h : s.dataOk) (x : Byte) : (adlerStep x s).dataOk := by
  obtain ⟨hmem, hpath⟩ := h
  refine ⟨hmem, ?_⟩
  rw [datapathOk_iff] at hpath ⊢
  obtain ⟨hacc, -, -, hwin, hgcnt⟩ := hpath
  refine ⟨hacc, ?_, ?_, hwin, hgcnt⟩ <;> simp [Rom.adlerMod] <;> omega

theorem adlerSteps_dataOk {s : State} (h : s.dataOk) (xs : List Byte) : (adlerSteps xs s).dataOk := by
  induction xs generalizing s with
  | nil => exact h
  | cons x xs ih => exact ih (adlerStep_dataOk h x)

theorem clearSums_dataOk {s : State} (h : s.dataOk) : ({ s with a := 1#16, b := 0#16 } : State).dataOk := by
  obtain ⟨hmem, hpath⟩ := h
  refine ⟨hmem, ?_⟩
  rw [datapathOk_iff] at hpath ⊢
  obtain ⟨hacc, -, -, hwin, hgcnt⟩ := hpath
  exact ⟨hacc, by simp [Rom.adlerMod], by simp [Rom.adlerMod], hwin, hgcnt⟩

theorem adlerPass_dataOk {s : State} (h : s.dataOk) (xs : List Byte) : (adlerPass xs s).dataOk :=
  adlerSteps_dataOk (clearSums_dataOk h) xs

theorem raise_dataOk {s : State} (h : s.dataOk) (k : ErrorKind) : (raise k s).dataOk := by
  obtain ⟨hmem, hpath⟩ := h
  refine ⟨raise_memoriesOk k hmem, ?_⟩
  rw [datapathOk_iff] at hpath ⊢
  simpa using hpath

theorem withResult_dataOk {s : State} (h : s.dataOk) (v : BitVec 32) : ({ s with result := v } : State).dataOk := h

/-! ### From there to the invariant -/

theorem statusOk_congr {s t : State} (h : t.status = s.status) : t.statusOk = s.statusOk := by
  have hword (u : State) : u.statusOk = ({ State.reset with status := u.status } : State).statusOk := rfl
  rw [hword t, h, ← hword s]

theorem busy_congr {s t : State} (h : t.status = s.status) : t.busy = s.busy := by
  rw [State.busy, h, State.busy]

/-- A running command that goes on. -/
theorem inv_of_status {s t : State} (hs : s.inv = true) (h : t.status = s.status) (hd : t.dataOk)
    (hc : s.busy = true → t.cursorsOk = true) : t.inv = true := by
  rw [inv_iff, statusOk_congr h, busy_congr h]
  exact ⟨((inv_iff s).1 hs).1, hd, hc⟩

theorem start_inv {s : State} (h : s.dataOk) : (start s).inv = true := by
  refine (inv_iff _).2 ⟨?_, start_dataOk h, fun _ => (cursorsOk_iff _).2 (by simp)⟩
  rw [statusOk_congr (s := start State.reset) (t := start s) rfl]; decide

theorem succeed_inv {s : State} (h : s.dataOk) : (succeed s).inv = true := by
  refine (inv_iff _).2 ⟨?_, h, fun hb => absurd hb (by simp)⟩
  rw [statusOk_congr (s := succeed State.reset) (t := succeed s) rfl]; decide

theorem raise_inv {s : State} (h : s.dataOk) (k : ErrorKind) : (raise k s).inv = true := by
  refine (inv_iff _).2 ⟨?_, raise_dataOk h k, fun hb => absurd hb (by simp)⟩
  simp only [State.statusOk, State.statusReserved, raise_busy, raise_done, raise_ok, raise_err, raise_status]
  cases k <;> decide

end Sys2Proof.Machine
end

section
/-! PROOFS. What a running DEFLATE or zlib decoder does, as a chain of single moves and the way the chain ends (10_state.md R28,
44_deflate_decoder.md R212, R213, 45_zlib.md R245). Every statement about what such a decoder keeps is one induction over these
moves. -/

namespace Sys2Proof.Machine

/-- One thing a running DEFLATE or zlib decoder does. -/
inductive DecoderMove (s : State) : State → Prop
  /-- It reads bits that are there (40_bitstream.md R136). -/
  | read (n : Nat) (h : n ≤ bitsLeft s) : DecoderMove s (advanceBits n s)
  /-- It latches what it has read, and chooses what to read next. -/
  | latch {t : State} (h : t = { s with
      bfinal := t.bfinal, btype := t.btype, sym := t.sym, mlen := t.mlen, mdist := t.mdist, blen := t.blen,
      micro := t.micro }) : DecoderMove s t
  /-- It puts a byte where `MAXOUT` leaves room (R212). -/
  | put (x : Byte) (room : s.maxOut = 0 ∨ s.outLen < s.maxOut) : DecoderMove s (winPush x (append x s))
  /-- `DECOMPRESS_ZLIB` sets the reader on the payload and calls the DEFLATE decoder (R245). -/
  | payload (h : 6 ≤ s.inLen) :
      DecoderMove s (atFirstBlock true { s with rbase := 2, rend := s.inLen - 4, rpos := 2, rbit := 0#3 })

/-- A running decoder has come from `s` to this state. -/
abbrev Decodes : State → State → Prop := Relation.ReflTransGen DecoderMove

/-- Only the bit cursor differs, and the latches that the reads of a cut element may have set (40_bitstream.md R136). -/
def onlyReader (s t : State) : Prop :=
  t = { s with rpos := t.rpos, rbit := t.rbit, bfinal := t.bfinal, sym := t.sym, blen := t.blen }

/-- How a decoder's work from `s` on can stand or end; `zlib` says whether `DECOMPRESS_ZLIB` called it. -/
inductive DecoderEnd (zlib : Bool) (s : State) : State → Prop
  /-- The command still runs. -/
  | running {t : State} (h : Decodes s t) : DecoderEnd zlib s t
  /-- `DECOMPRESS` ends with its last block (44_deflate_decoder.md R213). -/
  | succeeded {u : State} (h : Decodes s u) (hz : zlib = false) : DecoderEnd zlib s (succeed u)
  /-- A failure that leaves the output open (60_exceptions.md R332). -/
  | raised {u v : State} (k : ErrorKind) (hk : k.keepsOut = false) (h : Decodes s u) (hv : onlyReader u v) :
      DecoderEnd zlib s (raise k v)
  /-- `DECOMPRESS_ZLIB` ends with its trailer (45_zlib.md R247). -/
  | checked {u t : State} (sum : BitVec 32) (h : Decodes s u) (hz : zlib = true) (ht : execZlibAdler32 sum u = .next t) :
      DecoderEnd zlib s t

theorem DecoderEnd.trans {z : Bool} {s u t : State} (h : Decodes s u) (h' : DecoderEnd z u t) : DecoderEnd z s t := by
  cases h' with
  | running h' => exact .running (h.trans h')
  | succeeded h' hz => exact .succeeded (h.trans h') hz
  | raised k hk h' hv => exact .raised k hk (h.trans h') hv
  | checked sum h' hz ht => exact .checked sum (h.trans h') hz ht

/-- Where the command still runs, the decoder has come there by its moves. -/
theorem DecoderEnd.decodes_of_busy {z : Bool} {s t : State} (h : DecoderEnd z s t) (hb : t.busy = true) : Decodes s t := by
  cases h with
  | running h => exact h
  | succeeded => exact absurd hb (by simp)
  | raised => exact absurd hb (by simp)
  | checked sum _ _ ht =>
    obtain ⟨t', ht', hend⟩ := execZlibAdler32_next sum _
    cases ht.symm.trans ht'
    exact absurd hb (by simp [hend])

/-! ### The elements of a DEFLATE stream -/

theorem DecoderEnd.of_raise {z : Bool} {s u : State} {k : ErrorKind} (hk : k.keepsOut = false) (h : Decodes s u) :
    DecoderEnd z s (raise k u) := .raised k hk h rfl

theorem decoderEnd_endBlock {s u : State} (h : Decodes s u) : DecoderEnd u.zlib s (endBlock u) := by
  unfold endBlock
  split
  · split
    next => exact .running (h.tail (.latch rfl))
    next hz => exact .succeeded h (Bool.eq_false_iff.2 hz)
  · exact .running (h.tail (.latch rfl))

/-- `Put` of many bytes: the bytes go in one by one, or the bound is met on the way (R212). -/
theorem decoderEnd_putAll (xs : List Byte) (s : State) :
    (∃ u, putAll xs s = .ok u ∧ Decodes s u) ∨
      ∃ u, putAll xs s = .error (raise .outputLimitExceeded u) ∧ Decodes s u := by
  induction xs generalizing s with
  | nil => exact .inl ⟨s, rfl, .refl⟩
  | cons x xs ih =>
    rcases put_cases x s with ⟨room, hp⟩ | ⟨-, hp⟩
    · simp only [putAll_cons, hp]
      rcases ih (winPush x (append x s)) with ⟨u, hu, hd⟩ | ⟨u, hu, hd⟩
      · exact .inl ⟨u, hu, .head (.put x room) hd⟩
      · exact .inr ⟨u, hu, .head (.put x room) hd⟩
    · exact .inr ⟨s, by rw [putAll_cons, hp], .refl⟩

theorem decoderEnd_copyBytes (z : Bool) (n d : Nat) (s : State) : DecoderEnd z s (copyBytes n d s).state := by
  induction n generalizing s with
  | zero => exact .running .refl
  | succ n ih =>
    rw [copyBytes_succ]
    rcases put_cases (s.outBuf.read (s.outLen - d)) s with ⟨room, hp⟩ | ⟨-, hp⟩ <;> rw [hp]
    · exact .trans (.single (.put _ room)) (ih _)
    · exact .of_raise rfl .refl

theorem raise_withRpos (k : ErrorKind) (s : State) (n : Nat) : { raise k s with rpos := n } = raise k { s with rpos := n } := by
  unfold raise; split <;> rfl

theorem decoderEnd_storedBlock (len : BitVec 16) (data : List Byte) (s : State) :
    DecoderEnd s.zlib s (storedBlock len data s).state := by
  have hlatch : Decodes s { s with blen := len } := .single (.latch rfl)
  unfold storedBlock
  dsimp only
  rcases decoderEnd_putAll (data.take len.toNat) { s with blen := len } with ⟨u, hu, hd⟩ | ⟨u, hu, hd⟩ <;> rw [hu]
  · have hz : u.zlib = s.zlib := (onlyOutput_reader (putAll_ok hu).1).1
    dsimp only
    split
    · exact .of_raise rfl (hlatch.trans hd)
    · exact hz ▸ decoderEnd_endBlock (hlatch.trans hd)
  · dsimp only [Flow.state]
    rw [raise_withRpos]
    exact .raised _ rfl (hlatch.trans hd) rfl

theorem decoderEnd_literalElement (z : Bool) (x : Byte) (s : State) : DecoderEnd z s (literalElement x s).state := by
  have hlatch : Decodes s { s with sym := x.setWidth 9, micro := .litLen } := .single (.latch rfl)
  unfold literalElement
  rcases put_cases x { s with sym := x.setWidth 9, micro := .litLen } with ⟨room, hp⟩ | ⟨-, hp⟩ <;> rw [hp]
  · exact .running (hlatch.tail (.put x room))
  · exact .of_raise rfl hlatch

theorem decoderEnd_distanceElement (z : Bool) (j e : Nat) (s : State) : DecoderEnd z s (distanceElement j e s).state := by
  have hlatch : Decodes s { s with mdist := BitVec.ofNat 16 (distanceOperand j e), micro := .litLen } := .single (.latch rfl)
  unfold distanceElement
  dsimp only
  split
  · exact .of_raise rfl hlatch
  · exact .trans hlatch (decoderEnd_copyBytes z _ _ _)

/-- Every element of a DEFLATE stream is a chain of moves. -/
theorem DeflateMove.decoderEnd {s t : State} (h : DeflateMove s t) : DecoderEnd s.zlib s t := by
  cases h with
  | storedHeader | fixedHeader | length => exact .running (.single (.latch rfl))
  | unsupportedHeader bfinal btype =>
    have hlatch : Decodes s { s with bfinal := bfinal, btype := btype } := .single (.latch rfl)
    exact .of_raise rfl hlatch
  | storedBody len data => exact decoderEnd_storedBlock len data s
  | literal x => exact decoderEnd_literalElement _ x s
  | endOfBlock =>
    have hlatch : Decodes s { s with sym := 256#9 } := .single (.latch rfl)
    exact decoderEnd_endBlock hlatch
  | reserved => exact .of_raise rfl .refl
  | distance j e => exact decoderEnd_distanceElement _ j e s

/-- One element of the running DEFLATE decoder, read and run, whichever of the machine's two loops asks for it. -/
theorem deflate_decoderEnd {s : State} (hc : s.micro.readsBits = true) :
    ∃ t, deflateStep s = .next t ∧ streamStep s = .next t ∧ DecoderEnd s.zlib s t ∧ t.zlib = s.zlib := by
  unfold deflateStep streamStep streamStepWith
  rcases fetch_bits hc with hf | ⟨i, n, hf, hi, -, hle⟩ <;> rw [hf]
  · exact ⟨_, rfl, rfl, .raised _ rfl .refl (cutElement_frame s), by rw [raise_zlib, cutElement_zlib]⟩
  · obtain ⟨t, hdeflate, hexec, hmove⟩ := deflateElement_next hi hc (advanceBits n s)
    exact ⟨t, hdeflate, (streamElement_eq_exec (by simp [hi]) _).trans hexec,
      .trans (.single (.read n hle)) hmove.decoderEnd, hmove.goesOn.1⟩

/-! ### Loops -/

/-- What every round of a loop keeps, the loop keeps. -/
theorem runWhile_keeps {going : State → Bool} {run : State → Answer} {P : State → Prop}
    (hround : ∀ s t, going s = true → P s → run s = .next t → P t) {n : Nat} {s t : State}
    (hrun : runWhile going run n s = .next t) (hs : P s) : P t := by
  induction n generalizing s with
  | zero => cases hrun; exact hs
  | succ n ih =>
    rw [runWhile] at hrun
    split at hrun
    next hg =>
      split at hrun
      next u hu => exact ih hrun (hround s u hg hs hu)
      all_goals cases hrun
    · cases hrun; exact hs

theorem inflate_decoderEnd {s t : State} (h : inflate s = .next t) : DecoderEnd s.zlib s t := by
  refine (runWhile_keeps (P := fun u => DecoderEnd s.zlib s u ∧ u.zlib = s.zlib) ?_ h ⟨.running .refl, rfl⟩).1
  rintro u v hg ⟨hu, hz⟩ hv
  rw [inflating_eq, Bool.and_eq_true] at hg
  obtain ⟨hb, hc⟩ := hg
  obtain ⟨w, hw, -, hend, hzw⟩ := deflate_decoderEnd hc
  cases hv.symm.trans hw
  exact ⟨.trans (hu.decodes_of_busy hb) (hz ▸ hend), hzw.trans hz⟩

/-! ### The zlib envelope -/

/-- The envelope has no end that is no failure: its decoder tests the lengths itself (45_zlib.md R246). -/
theorem decodeStream_envelope_ne_endOfInput {c : StreamCtx} (hc : 0 < c.envelopeRounds) (p : Nat) (bs : List Bool) :
    decodeStream c p bs ≠ .error .endOfInput := by
  cases c with
  | zlibCmf | zlibFlg | zlibPayload | zlibTrailer =>
    simp only [decodeStream, decodeZlibByte, decodeTrailer]
    repeat' split
    all_goals simp
  | _ => cases hc

theorem fetch_envelope_ne_endOfInput {s : State} (hc : 0 < s.micro.envelopeRounds) : fetch s ≠ .endOfInput := by
  unfold fetch
  split
  · simp
  · simp
  next hd => exact absurd hd (decodeStream_envelope_ne_endOfInput hc _ _)

theorem exec_envelope_decoderEnd {i : Instr} {c : StreamCtx} (hi : i.ctx = some c) (hc : 0 < c.envelopeRounds) {s t : State}
    (h : exec i s = .next t) : DecoderEnd true s t := by
  cases i with
  | zlibCmf cmf =>
    change execZlibCmf cmf s = .next t at h
    unfold execZlibCmf at h
    split at h
    · cases h; exact .of_raise rfl .refl
    · split at h
      · cases h; exact .running (.single (.latch rfl))
      · cases h; exact .of_raise rfl .refl
  | zlibFlg flg =>
    change execZlibFlg flg s = .next t at h
    unfold execZlibFlg at h
    split at h
    · cases h; exact .running (.single (.latch rfl))
    · cases h; exact .of_raise rfl .refl
  | zlibPayload =>
    change execZlibPayload s = .next t at h
    unfold execZlibPayload at h
    split at h
    · cases h; exact .of_raise rfl .refl
    next hlen => exact .trans (.single (.payload (Nat.le_of_not_lt hlen))) (inflate_decoderEnd h)
  | zlibAdler32 sum => exact .checked sum .refl rfl h
  | _ => cases hi <;> cases hc

/-- One element of the running zlib decoder. -/
theorem envelope_decoderEnd {s t : State} (hc : 0 < s.micro.envelopeRounds) (h : streamStep s = .next t) :
    DecoderEnd true s t := by
  unfold streamStep streamStepWith at h
  cases hf : fetch s with
  | element i u =>
    obtain ⟨hi, rfl⟩ := fetch_envelope hc hf
    rw [hf] at h
    exact exec_envelope_decoderEnd hi hc ((streamElement_eq_exec (by simp [hi]) u).symm.trans h)
  | failed k u =>
    obtain ⟨rfl, rfl⟩ := fetch_failed hf
    rw [hf] at h
    cases h
    exact .raised _ rfl .refl (cutElement_frame s)
  | endOfInput => exact absurd hf (fetch_envelope_ne_endOfInput hc)

end Sys2Proof.Machine
end

section
/-! PROOFS. What a running DEFLATE or zlib decoder keeps: one case a move, then along the chain. -/

namespace Sys2Proof.Machine

/-! ### Along the moves -/

/-- No move touches `STATUS`, `MAXOUT` or `RESULT`. -/
theorem DecoderMove.frame {s t : State} (h : DecoderMove s t) :
    t.status = s.status ∧ t.maxOut = s.maxOut ∧ t.result = s.result := by
  cases h with
  | read | put | payload => exact ⟨rfl, rfl, rfl⟩
  | latch h => rw [h]; exact ⟨rfl, rfl, rfl⟩

theorem Decodes.frame {s t : State} (h : Decodes s t) :
    t.status = s.status ∧ t.maxOut = s.maxOut ∧ t.result = s.result := by
  induction h with
  | refl => exact ⟨rfl, rfl, rfl⟩
  | tail _ hmove ih =>
    obtain ⟨hstatus, hmax, hresult⟩ := hmove.frame
    obtain ⟨ihstatus, ihmax, ihresult⟩ := ih
    exact ⟨hstatus.trans ihstatus, hmax.trans ihmax, hresult.trans ihresult⟩

theorem Decodes.status {s t : State} (h : Decodes s t) : t.status = s.status := h.frame.1

theorem Decodes.maxOut {s t : State} (h : Decodes s t) : t.maxOut = s.maxOut := h.frame.2.1

theorem Decodes.result {s t : State} (h : Decodes s t) : t.result = s.result := h.frame.2.2

theorem DecoderMove.dataOk {s t : State} (h : DecoderMove s t) (hs : s.dataOk) : t.dataOk := by
  cases h with
  | read | payload => exact hs
  | latch h => rw [h]; exact hs
  | put x => exact winPush_dataOk (append_dataOk hs x) x

theorem Decodes.dataOk {s t : State} (h : Decodes s t) (hs : s.dataOk) : t.dataOk := by
  induction h with
  | refl => exact hs
  | tail _ hmove ih => exact hmove.dataOk ih

/-- Reading bits that are there leaves the cursor in range (10_state.md R31, R38). -/
theorem advanceBits_cursorsOk {n : Nat} {s : State} (h : s.cursorsOk = true) (hn : n ≤ bitsLeft s) :
    (advanceBits n s).cursorsOk = true := by
  rw [cursorsOk_iff] at h ⊢
  obtain ⟨hbase, hend, hlen, hbit, hipos⟩ := h
  have hroom : s.rbit.toNat + n ≤ 8 * (s.rend - s.rpos) := by
    rcases Nat.eq_or_lt_of_le hend with heq | hlt
    · have hzero : s.rbit.toNat = 0 := by rw [hbit heq]; rfl
      rw [bitsLeft] at hn
      omega
    · have := s.rbit.isLt
      rw [bitsLeft] at hn
      omega
  refine ⟨?_, ?_, hlen, ?_, hipos⟩
  · simp only [advanceBits_rbase, advanceBits_rpos]; omega
  · simp only [advanceBits_rend, advanceBits_rpos]; omega
  · simp only [advanceBits_rend, advanceBits_rpos, advanceBits_rbit]
    intro heq
    apply BitVec.eq_of_toNat_eq
    simp only [BitVec.toNat_ofNat]
    omega

theorem DecoderMove.cursorsOk {s t : State} (h : DecoderMove s t) (hs : s.cursorsOk = true) : t.cursorsOk = true := by
  cases h with
  | read n hn => exact advanceBits_cursorsOk hs hn
  | latch h => rw [h]; exact hs
  | put => exact hs
  | payload hlen =>
    obtain ⟨-, -, -, -, hipos⟩ := (cursorsOk_iff s).1 hs
    exact (cursorsOk_iff _).2 ⟨Nat.le_refl 2, by simp; omega, by simp, fun _ => rfl, hipos⟩

theorem Decodes.cursorsOk {s t : State} (h : Decodes s t) (hs : s.cursorsOk = true) : t.cursorsOk = true := by
  induction h with
  | refl => exact hs
  | tail _ hmove ih => exact hmove.cursorsOk ih

/-- The output is within `MAXOUT`, where `MAXOUT` bounds it (10_state.md R25). -/
def State.withinMaxOut (s : State) : Prop := s.maxOut ≠ 0 → s.outLen ≤ s.maxOut

theorem DecoderMove.withinMaxOut {s t : State} (h : DecoderMove s t) (hs : s.withinMaxOut) : t.withinMaxOut := by
  cases h with
  | read | payload => exact hs
  | latch h => rw [h]; exact hs
  | put x room =>
    intro (hmax : s.maxOut ≠ 0)
    exact room.resolve_left hmax

theorem Decodes.withinMaxOut {s t : State} (h : Decodes s t) (hs : s.withinMaxOut) : t.withinMaxOut := by
  induction h with
  | refl => exact hs
  | tail _ hmove ih => exact hmove.withinMaxOut ih

/-! ### At the end -/

/-- The trailer writes the checksum of the output into `RESULT` and ends the command, one way or the other (45_zlib.md R247). -/
theorem execZlibAdler32_cases {sum : BitVec 32} {s t : State} (h : execZlibAdler32 sum s = .next t) :
    t = succeed { adlerPass s.output s with result := adlerValue (adlerPass s.output s) } ∨
      t = raise .checksumMismatch { adlerPass s.output s with result := adlerValue (adlerPass s.output s) } := by
  unfold execZlibAdler32 at h
  injection h with h
  generalize adlerPass s.output s = sums at *
  subst h
  by_cases hsum : adlerValue sums = sum
  · exact .inl (if_pos hsum)
  · exact .inr (if_neg hsum)

theorem onlyReader.dataOk {s t : State} (h : onlyReader s t) (hs : s.dataOk) : t.dataOk := by rw [h]; exact hs

theorem execZlibAdler32_inv {sum : BitVec 32} {s t : State} (h : execZlibAdler32 sum s = .next t) (hs : s.dataOk) :
    t.inv = true := by
  have hsums := withResult_dataOk (adlerPass_dataOk hs s.output) (adlerValue (adlerPass s.output s))
  rcases execZlibAdler32_cases h with rfl | rfl
  · exact succeed_inv hsums
  · exact raise_inv hsums _

/-- A running decoder keeps the invariant, and its command ends in it. -/
theorem DecoderEnd.inv {z : Bool} {s t : State} (h : DecoderEnd z s t) (hb : s.busy = true) (hs : s.inv = true) :
    t.inv = true := by
  obtain ⟨-, hdata, hcursors⟩ := (inv_iff s).1 hs
  cases h with
  | running h => exact inv_of_status hs h.status (h.dataOk hdata) fun _ => h.cursorsOk (hcursors hb)
  | succeeded h => exact succeed_inv (h.dataOk hdata)
  | raised k _ h hv => exact raise_inv (hv.dataOk (h.dataOk hdata)) k
  | checked sum h _ ht => exact execZlibAdler32_inv ht (h.dataOk hdata)

end Sys2Proof.Machine
end

section
/-! PROOFS. One move of a running text decoder, channel-safe or Base64, and what the two decoders keep
(47_channel_escaper.md R272, 48_base64.md R285, R288). -/

namespace Sys2Proof.Machine

/-- Everything an element of a channel-safe stream or of a text can do to the state it has been read in. -/
inductive TextMove (s : State) : State → Prop
  | append (x : Byte) : TextMove s (append x s)
  | shift (k : Nat) : TextMove s (shiftIndex k s)
  | pad : TextMove s { s with micro := .printPad (padCount s + 1) }
  | skip : TextMove s s
  | refused (k : ErrorKind) : TextMove s (raise k s)

theorem exec_textMove {i : Instr} (hi : i.ctx = some .escape ∨ i.ctx = some .print) {s t : State} (h : exec i s = .next t) :
    TextMove s t := by
  rcases hi with hi | hi
  · rcases exec_escape hi s with ⟨x, h'⟩ | h' <;> cases h.symm.trans h'
    · exact .append x
    · exact .refused _
  · rcases exec_print hi s with ⟨c, h'⟩ | h' | h' | h' <;> cases h.symm.trans h'
    · rcases alphabetChar_cases c s with ⟨k, hk⟩ | hk <;> rw [hk]
      · exact .shift k
      · exact .refused _
    · exact .pad
    · exact .skip
    · exact .refused _

/-- The text decoders read their characters whole: a cut one leaves nothing read. -/
theorem cutElement_of_readsBytes {s : State} (hc : s.micro.readsBytes = true) : cutElement s = s := by
  unfold cutElement
  cases hm : s.micro with
  | zlibCmf | zlibFlg | zlibPayload | zlibTrailer | escape | print | printPad => rfl
  | _ => rw [hm] at hc; cases hc

/-- Everything a running text decoder can do in a step. -/
theorem streamStep_text {s t : State} (hc : s.micro.readsBytes = true) (h : streamStep s = .next t) :
    t = endOfInput s ∨ t = raise .truncatedStream s ∨
      ∃ n, n ≤ s.inLen - s.ipos ∧ TextMove { s with ipos := s.ipos + n } t := by
  unfold streamStep streamStepWith at h
  rcases fetch_bytes hc with hf | ⟨u, hf⟩ | ⟨i, n, hf, hi, -, hle⟩ <;> rw [hf] at h
  · cases h; exact .inl rfl
  · cases h
    obtain ⟨-, rfl⟩ := fetch_failed hf
    rw [cutElement_of_readsBytes hc]
    exact .inr (.inl rfl)
  · refine .inr (.inr ⟨n, hle, exec_textMove hi ?_⟩)
    exact (streamElement_eq_exec (by rcases hi with hi | hi <;> simp [hi]) _).symm.trans h

/-- How a text ends (48_base64.md R285, 47_channel_escaper.md R272). -/
theorem endOfInput_cases (s : State) :
    endOfInput s = raise .invalidBase64 s ∨ endOfInput s = succeed s ∨ ∃ g n, endOfInput s = succeed (lastGroup g n s) := by
  have htext : endOfText s = raise .invalidBase64 s ∨ endOfText s = succeed s ∨
      ∃ g n, endOfText s = succeed (lastGroup g n s) := by
    unfold endOfText
    dsimp only
    repeat' split
    · exact .inl rfl
    · exact .inr (.inr ⟨_, _, rfl⟩)
    · exact .inr (.inr ⟨_, _, rfl⟩)
    · exact .inr (.inl rfl)
  unfold endOfInput
  split
  case h_10 | h_11 => exact htext
  all_goals exact .inr (.inl rfl)

/-! ### The invariant -/

theorem shiftIndex_dataOk {s : State} (h : s.dataOk) (k : Nat) : (shiftIndex k s).dataOk := by
  obtain ⟨hmem, hpath⟩ := h
  rw [datapathOk_iff] at hpath
  obtain ⟨hacc, ha, hb, hwin, hgcnt⟩ := hpath
  unfold shiftIndex
  dsimp only
  split
  · refine appendAll_dataOk ?_ _
    exact ⟨hmem, (datapathOk_iff _).2 ⟨hacc, ha, hb, hwin, Nat.zero_le 3⟩⟩
  next hfull =>
    refine ⟨hmem, (datapathOk_iff _).2 ⟨hacc, ha, hb, hwin, ?_⟩⟩
    dsimp only
    bv_omega

theorem lastGroup_dataOk {s : State} (h : s.dataOk) (g : BitVec 24) (n : Nat) : (lastGroup g n s).dataOk :=
  appendAll_dataOk (s := { s with grp := g }) h _

theorem endOfInput_inv {s : State} (h : s.dataOk) : (endOfInput s).inv = true := by
  rcases endOfInput_cases s with he | he | ⟨g, n, he⟩ <;> rw [he]
  · exact raise_inv h _
  · exact succeed_inv h
  · exact succeed_inv (lastGroup_dataOk h g n)

theorem TextMove.inv {s t : State} (h : TextMove s t) (hs : s.inv = true) : t.inv = true := by
  obtain ⟨-, hdata, hcursors⟩ := (inv_iff s).1 hs
  cases h with
  | append x => exact inv_of_status hs rfl (append_dataOk hdata x) hcursors
  | shift k =>
    refine inv_of_status hs ?_ (shiftIndex_dataOk hdata k) ?_ <;> rw [shiftIndex_frame]
    exact hcursors
  | pad => exact inv_of_status hs rfl hdata hcursors
  | skip => exact hs
  | refused k => exact raise_inv hdata k

/-- A step of a running text decoder keeps the invariant. -/
theorem streamStep_text_inv {s t : State} (hc : s.micro.readsBytes = true) (hb : s.busy = true) (hs : s.inv = true)
    (h : streamStep s = .next t) : t.inv = true := by
  obtain ⟨-, hdata, hcursors⟩ := (inv_iff s).1 hs
  rcases streamStep_text hc h with rfl | rfl | ⟨n, hn, hmove⟩
  · exact endOfInput_inv hdata
  · exact raise_inv hdata _
  · refine hmove.inv (inv_of_status hs rfl hdata fun _ => ?_)
    have hcur := (cursorsOk_iff s).1 (hcursors hb)
    obtain ⟨hbase, hend, hlen, hbit, hipos⟩ := hcur
    exact (cursorsOk_iff _).2 ⟨hbase, hend, hlen, hbit, by dsimp only; omega⟩

/-! ### Results -/

theorem lastGroup_result (g : BitVec 24) (n : Nat) (s : State) : (lastGroup g n s).result = s.result := by
  rw [lastGroup, appendAll_frame]

theorem endOfInput_result (s : State) : (endOfInput s).result = s.result := by
  rcases endOfInput_cases s with he | he | ⟨g, n, he⟩ <;> rw [he]
  · exact raise_result _ s
  · rfl
  · exact lastGroup_result g n s

theorem TextMove.result {s t : State} (h : TextMove s t) : t.result = s.result := by
  cases h with
  | append | pad | skip => rfl
  | shift k => rw [shiftIndex_frame]
  | refused k => exact raise_result k s

theorem streamStep_text_result {s t : State} (hc : s.micro.readsBytes = true) (h : streamStep s = .next t) :
    t.result = s.result := by
  rcases streamStep_text hc h with rfl | rfl | ⟨n, -, hmove⟩
  · exact endOfInput_result s
  · exact raise_result _ s
  · exact hmove.result

end Sys2Proof.Machine
end

section
/-! PROOFS. What an encoding command does between START and its end, as a chain of single moves (43_deflate_encoder.md,
45_zlib.md R242, 46_adler32.md R262, 47_channel_escaper.md R271, 48_base64.md R283). -/

namespace Sys2Proof.Machine

/-- One thing an encoding command does. -/
inductive EncoderMove (s : State) : State → Prop
  /-- It appends a byte to `OUT` (20_memory.md R63). -/
  | append (x : Byte) : EncoderMove s (append x s)
  /-- It writes a bit (40_bitstream.md R131). -/
  | writeBit (bit : Bool) : EncoderMove s (writeBit bit s)
  /-- It fills up the last byte (R132). -/
  | flush : EncoderMove s (flush s)
  /-- It pushes a byte into the window (20_memory.md R64). -/
  | push (x : Byte) : EncoderMove s (winPush x s)
  /-- It empties the window (43_deflate_encoder.md R189). -/
  | emptyWindow : EncoderMove s { s with wptr := 0#15, wfill := 0#16 }
  /-- It sums a byte (46_adler32.md R261). -/
  | sum (x : Byte) : EncoderMove s (adlerStep x s)
  /-- It starts a checksum (R263). -/
  | clearSums : EncoderMove s { s with a := 1#16, b := 0#16 }
  /-- It sets a register that has no range of its own outside a running decoder. -/
  | registers {t : State} (h : t = { s with
      ipos := t.ipos, bestLen := t.bestLen, bestDist := t.bestDist, grp := t.grp }) : EncoderMove s t

/-- An encoding command has come from `s` to this state. -/
abbrev Encodes : State → State → Prop := Relation.ReflTransGen EncoderMove

theorem EncoderMove.result {s t : State} (h : EncoderMove s t) : t.result = s.result := by
  cases h with
  | writeBit bit => rw [onlyWriter_writeBit bit s]
  | flush => rw [onlyWriter_flush s]
  | registers h => rw [h]
  | append | push | emptyWindow | sum | clearSums => rfl

theorem Encodes.result {s t : State} (h : Encodes s t) : t.result = s.result := by
  induction h with
  | refl => rfl
  | tail _ hmove ih => exact hmove.result.trans ih

theorem emptyWindow_dataOk {s : State} (h : s.dataOk) : ({ s with wptr := 0#15, wfill := 0#16 } : State).dataOk := by
  obtain ⟨hmem, hpath⟩ := h
  obtain ⟨hacc, ha, hb, -, hgcnt⟩ := (datapathOk_iff s).1 hpath
  exact ⟨hmem, (datapathOk_iff _).2 ⟨hacc, ha, hb, Nat.zero_le _, hgcnt⟩⟩

theorem EncoderMove.dataOk {s t : State} (h : EncoderMove s t) (hs : s.dataOk) : t.dataOk := by
  cases h with
  | append x => exact append_dataOk hs x
  | writeBit bit => exact writeBit_dataOk hs bit
  | flush => exact flush_dataOk hs
  | push x => exact winPush_dataOk hs x
  | emptyWindow => exact emptyWindow_dataOk hs
  | sum x => exact adlerStep_dataOk hs x
  | clearSums => exact clearSums_dataOk hs
  | registers h => rw [h]; exact hs

theorem Encodes.dataOk {s t : State} (h : Encodes s t) (hs : s.dataOk) : t.dataOk := by
  induction h with
  | refl => exact hs
  | tail _ hmove ih => exact hmove.dataOk ih

/-! ### The operations of the encoders are chains of moves -/

theorem encodes_appendAll (xs : List Byte) (s : State) : Encodes s (appendAll xs s) := by
  induction xs generalizing s with
  | nil => exact .refl
  | cons x xs ih => exact .head (.append x) (ih _)

theorem encodes_writeBitList (bits : List Bool) (s : State) : Encodes s (writeBitList bits s) := by
  induction bits generalizing s with
  | nil => exact .refl
  | cons b bits ih => exact .head (.writeBit b) (ih _)

theorem encodes_writeBits (v n : Nat) (s : State) : Encodes s (writeBits v n s) := encodes_writeBitList _ s

theorem encodes_writeCode (code len : Nat) (s : State) : Encodes s (writeCode code len s) := encodes_writeBitList _ s

theorem encodes_adlerPass (xs : List Byte) (s : State) : Encodes s (adlerPass xs s) := by
  have hsteps (s : State) : Encodes s (adlerSteps xs s) := by
    induction xs generalizing s with
    | nil => exact .refl
    | cons x xs ih => exact .head (.sum x) (ih _)
  exact .head .clearSums (hsteps _)

theorem encodes_writeStoredBlock (final : Bool) (data : List Byte) (s : State) : Encodes s (writeStoredBlock final data s) := by
  have hdata (s : State) : Encodes s (data.foldl (fun t x => writeBits x.toNat 8 t) s) := by
    induction data generalizing s with
    | nil => exact .refl
    | cons x xs ih => rw [List.foldl_cons]; exact (encodes_writeBits x.toNat 8 s).trans (ih _)
  dsimp only [writeStoredBlock]
  refine .trans ?_ (hdata _)
  refine .trans (.tail ?_ .flush) ((encodes_writeBits _ _ _).trans (encodes_writeBits _ _ _))
  exact (encodes_writeBits _ _ s).trans (encodes_writeBits _ _ _)

/-- One round of the loop of `CompressStored` (43_deflate_encoder.md R187): the next block, and `ipos` moved past its data. -/
def storedRound (s : State) : State :=
  let n := min Rom.storedMax (s.inLen - s.ipos)
  let t := writeStoredBlock (decide (s.ipos + n = s.inLen)) (s.inBuf.bytes s.ipos n) s
  { t with ipos := t.ipos + n }

theorem compressStoredLoop_succ (fuel : Nat) (s : State) :
    compressStoredLoop (fuel + 1) s =
      if s.ipos + min Rom.storedMax (s.inLen - s.ipos) = s.inLen then storedRound s
      else compressStoredLoop fuel (storedRound s) := by
  simp only [compressStoredLoop, storedRound, decide_eq_true_eq]

theorem encodes_storedRound (s : State) : Encodes s (storedRound s) :=
  (encodes_writeStoredBlock _ _ s).tail (.registers rfl)

theorem encodes_compressStoredLoop (fuel : Nat) (s : State) : Encodes s (compressStoredLoop fuel s) := by
  induction fuel generalizing s with
  | zero => exact .refl
  | succ fuel ih =>
    rw [compressStoredLoop_succ]
    split
    · exact encodes_storedRound s
    · exact (encodes_storedRound s).trans (ih _)

theorem encodes_compressStored (s : State) : Encodes s (compressStored s) :=
  .head (.registers (t := { s with ipos := 0 }) rfl) (encodes_compressStoredLoop _ _)

theorem encodes_advance (n : Nat) (s : State) : Encodes s (advance n s) := by
  induction n generalizing s with
  | zero => exact .refl
  | succ n ih => exact .head (.push _) (.head (.registers rfl) (ih _))

theorem encodes_findMatch (p : Nat) (s : State) : Encodes s (findMatch p s) := .single (.registers rfl)

theorem encodes_emitMatch (len dist : Nat) (s : State) : Encodes s (emitMatch len dist s) :=
  ((encodes_writeCode _ _ s).trans (encodes_writeBits _ _ _)).trans ((encodes_writeCode _ _ _).trans (encodes_writeBits _ _ _))

/-- One round of the loop of `CompressFixed` (R189, R190): the next symbol, and the window moved past the bytes it covers. -/
def symbolRound (s : State) : State :=
  let s1 := findMatch s.ipos s
  if Rom.minMatch ≤ s1.bestLen.toNat then
    advance s1.bestLen.toNat (emitMatch s1.bestLen.toNat s1.bestDist.toNat s1)
  else advance 1 (emitLiteral (s1.inBuf.read s1.ipos) s1)

theorem compressFixedLoop_succ (fuel : Nat) (s : State) :
    compressFixedLoop (fuel + 1) s = if s.ipos < s.inLen then compressFixedLoop fuel (symbolRound s) else s := by
  simp only [compressFixedLoop, symbolRound, apply_ite (compressFixedLoop fuel)]

theorem encodes_symbolRound (s : State) : Encodes s (symbolRound s) := by
  have hfind := encodes_findMatch s.ipos s
  unfold symbolRound
  dsimp only
  split
  · exact (hfind.trans (encodes_emitMatch _ _ _)).trans (encodes_advance _ _)
  · exact (hfind.trans (encodes_writeCode _ _ _)).trans (encodes_advance _ _)

theorem encodes_compressFixedLoop (fuel : Nat) (s : State) : Encodes s (compressFixedLoop fuel s) := by
  induction fuel generalizing s with
  | zero => exact .refl
  | succ fuel ih =>
    rw [compressFixedLoop_succ]
    split
    · exact (encodes_symbolRound s).trans (ih _)
    · exact .refl

theorem encodes_compressFixed (s : State) : Encodes s (compressFixed s) := by
  have hheader : Encodes s (writeBits 1 2 (writeBits 1 1 s)) := (encodes_writeBits 1 1 s).trans (encodes_writeBits 1 2 _)
  have hstart := (hheader.tail .emptyWindow).tail (.registers (t := { writeBits 1 2 (writeBits 1 1 s) with
    ipos := 0, wptr := 0#15, wfill := 0#16 }) rfl)
  exact ((hstart.trans (encodes_compressFixedLoop s.inLen _)).trans (encodes_writeCode _ _ _)).tail .flush

theorem encodes_compressBody (level : BitVec 4) (s : State) : Encodes s (compressBody level s) := by
  unfold compressBody
  split
  · exact encodes_compressStored s
  · exact encodes_compressFixed s

theorem encodes_escapeAll (xs : List Byte) (s : State) : Encodes s (escapeAll xs s) := by
  induction xs generalizing s with
  | nil => exact .refl
  | cons x xs ih => exact ((encodes_appendAll _ s).tail (.registers rfl)).trans (ih _)

theorem encodes_encodeGroup (g : BitVec 24) (chars pads bytes : Nat) (s : State) :
    Encodes s (encodeGroup g chars pads bytes s) :=
  (Relation.ReflTransGen.head (.registers (t := { s with grp := g }) rfl) (encodes_appendAll _ _)).tail (.registers rfl)

theorem encodes_encodeGroups (xs : List Byte) (s : State) : Encodes s (encodeGroups xs s) := by
  induction xs, s using encodeGroups.induct with
  | case1 b0 b1 b2 rest s ih => exact (encodes_encodeGroup _ _ _ _ s).trans ih
  | case2 | case3 => exact encodes_encodeGroup _ _ _ _ _
  | case4 => exact .refl

end Sys2Proof.Machine
end

section
/-! PROOFS. The invariant of the machine (10_state.md, 20_memory.md) is kept: by a step of a running command, then by the
decoding commands, whose rounds are such steps, then by every command and every move of the host. -/

namespace Sys2Proof

/-- Every context reads at the bit cursor, at `ipos` or at a fixed place of the zlib envelope (10_state.md R38). -/
theorem StreamCtx.reads_cases (c : StreamCtx) : c.readsBits = true ∨ c.readsBytes = true ∨ 0 < c.envelopeRounds := by
  cases c <;> simp [StreamCtx.readsBits, StreamCtx.readsBytes, StreamCtx.envelopeRounds]

end Sys2Proof

namespace Sys2Proof.Machine

/-! ### A running command -/

theorem streamStep_inv {s t : State} (hb : s.busy = true) (hs : s.inv = true) (h : streamStep s = .next t) : t.inv = true := by
  rcases s.micro.reads_cases with hc | hc | hc
  · obtain ⟨u, -, hu, hend, -⟩ := deflate_decoderEnd hc
    cases h.symm.trans hu
    exact hend.inv hb hs
  · exact streamStep_text_inv hc hb hs h
  · exact (envelope_decoderEnd hc h).inv hb hs

theorem runStream_inv {n : Nat} {s t : State} (hs : s.inv = true) (h : runStream n s = .next t) : t.inv = true :=
  runWhile_keeps (P := fun u => u.inv = true) (fun _ _ hb hu hv => streamStep_inv hb hu hv) h hs

/-! ### The commands -/

/-- The state in which a decoding command begins. -/
theorem start_micro_inv {s : State} (h : s.dataOk) (c : StreamCtx) : ({ start s with micro := c } : State).inv = true :=
  (start_inv h : (start s).inv = true)

theorem execDecompress_inv {s t : State} {level : BitVec 4} (hs : s.dataOk)
    (h : exec (.decompress level) s = .next t) : t.inv = true :=
  (inflate_decoderEnd (s := atFirstBlock false (start s)) h).inv (start_busy s) (start_inv hs : (start s).inv = true)

theorem execCompress_encodes (level : BitVec 4) (s : State) :
    ∃ u, Encodes (start s) u ∧ execCompress level s = .next (succeed u) := ⟨_, encodes_compressBody level _, rfl⟩

theorem execEncodeChannel_encodes (level : BitVec 4) (s : State) :
    ∃ u, Encodes (start s) u ∧ execEncodeChannel level s = .next (succeed u) := ⟨_, encodes_escapeAll _ _, rfl⟩

theorem execEncodePrint_encodes (level : BitVec 4) (s : State) :
    ∃ u, Encodes (start s) u ∧ execEncodePrint level s = .next (succeed u) := ⟨_, encodes_encodeGroups _ _, rfl⟩

/-- `COMPRESS_ZLIB` is a chain of moves, and then writes `RESULT` (45_zlib.md R242). -/
theorem execCompressZlib_encodes (level : BitVec 4) (s : State) :
    ∃ u v, Encodes (start s) u ∧ execCompressZlib level s = .next (succeed { u with result := v }) := by
  refine ⟨_, _, ?_, rfl⟩
  refine .trans ?_ (encodes_appendAll _ _)
  refine .trans ?_ (encodes_adlerPass _ _)
  exact .head (.append _) (.head (.append _) (encodes_compressBody level _))

/-- `ADLER32` is a chain of moves, and then writes `RESULT` (46_adler32.md R262). -/
theorem execAdler32_encodes (level : BitVec 4) (s : State) :
    ∃ u v, Encodes (start s) u ∧ execAdler32 level s = .next (succeed { u with result := v }) := by
  have hsums := encodes_adlerPass s.input (start s)
  refine ⟨{ adlerPass s.input (start s) with ipos := s.inLen }, adlerValue (adlerPass s.input (start s)), ?_, rfl⟩
  generalize adlerPass s.input (start s) = sums at hsums
  exact hsums.tail (.registers rfl)

theorem refuseCommand_inv {s : State} (hs : s.dataOk) : (refuseCommand s).inv = true := raise_inv (start_dataOk hs) _

/-- Every command ends in the invariant, whatever the cursors held before. -/
theorem exec_command_inv {i : Instr} (hi : i.ctx = none) {s t : State} (hs : s.dataOk) (h : exec i s = .next t) :
    t.inv = true := by
  have hend {u : State} (hu : Encodes (start s) u) : u.dataOk := hu.dataOk (start_dataOk hs)
  cases i with
  | compress level => obtain ⟨u, hu, he⟩ := execCompress_encodes level s; cases h.symm.trans he; exact succeed_inv (hend hu)
  | encodeChannel level =>
    obtain ⟨u, hu, he⟩ := execEncodeChannel_encodes level s; cases h.symm.trans he; exact succeed_inv (hend hu)
  | encodePrint level =>
    obtain ⟨u, hu, he⟩ := execEncodePrint_encodes level s; cases h.symm.trans he; exact succeed_inv (hend hu)
  | compressZlib level =>
    obtain ⟨u, v, hu, he⟩ := execCompressZlib_encodes level s
    cases h.symm.trans he
    exact succeed_inv (withResult_dataOk (hend hu) v)
  | adler32 level =>
    obtain ⟨u, v, hu, he⟩ := execAdler32_encodes level s
    cases h.symm.trans he
    exact succeed_inv (withResult_dataOk (hend hu) v)
  | decompress level => exact execDecompress_inv hs h
  | decompressZlib | decodeChannel | decodePrint => exact runStream_inv (start_micro_inv hs _) h
  | illegalOp0 | illegalOpAB | illegalOpCF | illegalLevel1011 | illegalLevel1215 => cases h; exact refuseCommand_inv hs
  | _ => cases hi

theorem decodeCommand_ctx (w : BitVec 8) : (decodeCommand w).ctx = none := by
  simp only [decodeCommand, illegalLevel, apply_ite Instr.ctx]
  simp only [Instr.ctx, ite_self]

/-- A step with no command running is the command in `CMD` (00_scope.md R16). -/
theorem step_idle {s : State} (hb : s.busy = false) : step s = exec (decodeCommand s.cmd) s := by
  unfold step; rw [hb]; rfl

theorem step_inv {s t : State} (hs : s.inv = true) (h : step s = .next t) : t.inv = true := by
  cases hb : s.busy with
  | true => exact streamStep_inv hb hs ((step_running hb).symm.trans h)
  | false =>
    obtain ⟨-, hdata, -⟩ := (inv_iff s).1 hs
    exact exec_command_inv (decodeCommand_ctx s.cmd) hdata ((step_idle hb).symm.trans h)

/-! ### The host -/

/-- Settles O53, by evaluating the invariant on the reset state. -/
theorem invariantHoldsAtReset : Obligations.InvariantHoldsAtReset := by
  unfold Obligations.InvariantHoldsAtReset
  decide

/-- Between commands the cursors mean nothing: the host's writes need only keep the memories canonical. -/
theorem inv_of_idle {s t : State} (hs : s.inv = true) (hb : ¬ s.busy = true) (h : t.status = s.status) (hd : t.dataOk) :
    t.inv = true := inv_of_status hs h hd fun h => absurd h hb

theorem hostMove_inv {s t : State} {w : BitVec 8} {n i : Nat} {x : Byte} {xs : List Byte} (hs : s.inv = true)
    (h : hostWriteCmd w s = some t ∨ hostWriteInLen n s = some t ∨ hostWriteMaxOut n s = some t ∨
      hostWriteIn i x s = some t ∨ hostLoad xs s = some t ∨ t = hostReset s) : t.inv = true := by
  obtain ⟨-, hdata, -⟩ := (inv_iff s).1 hs
  have hinput {m : Memory} (hm : m.wf = true) : ({ s with inBuf := m } : State).dataOk := by
    obtain ⟨hmem, hpath⟩ := hdata
    obtain ⟨-, hout, hwin, hbelow, hwbelow⟩ := (memoriesOk_iff s).1 hmem
    exact ⟨(memoriesOk_iff _).2 ⟨hm, hout, hwin, hbelow, hwbelow⟩, hpath⟩
  have hwf : s.inBuf.wf = true := ((memoriesOk_iff s).1 hdata.1).1
  rcases h with h | h | h | h | h | rfl
  · unfold hostWriteCmd at h
    split at h <;> cases h
    exact inv_of_idle hs ‹_› rfl hdata
  · unfold hostWriteInLen at h
    split at h <;> cases h
    exact inv_of_idle hs ‹_› rfl hdata
  · unfold hostWriteMaxOut at h
    split at h <;> cases h
    exact inv_of_idle hs ‹_› rfl hdata
  · unfold hostWriteIn at h
    split at h <;> cases h
    exact inv_of_idle hs ‹_› rfl (hinput (Memory.wf_write hwf i x))
  · unfold hostLoad at h
    split at h <;> cases h
    exact inv_of_idle hs ‹_› rfl (hinput (Memory.wf_writeBytes hwf 0 xs))
  · exact invariantHoldsAtReset

/-- Settles O52: a running decoder's step is a chain of moves that keep the memories, the datapath and the cursors; a command
starts with its cursors at 0 and ends by one of the two operations that write a legal `STATUS`. -/
theorem invariantIsKept : Obligations.InvariantIsKept :=
  ⟨fun _ _ hs h => step_inv hs h, fun _ _ _ _ _ _ _ hs h => hostMove_inv hs h⟩

end Sys2Proof.Machine
end

section
/-! PROOFS. What a decoder leaves of the unread bits is their end, and moving the cursor past the element leaves exactly that
unread (10_state.md R31, R38, 40_bitstream.md R137). -/

namespace Sys2Proof

/-! ### What the decoders leave -/

theorem takeLsb_eq_drop {n v : Nat} {bs rest : List Bool} (h : takeLsb n bs = some (v, rest)) : rest = bs.drop n := by
  induction n generalizing bs v with
  | zero => cases h; rfl
  | succ n ih =>
    cases bs with
    | nil => cases h
    | cons b bs =>
      simp only [takeLsb, Option.map_eq_some_iff, Prod.mk.injEq] at h
      obtain ⟨⟨v', rest'⟩, hr, _, rfl⟩ := h
      exact ih hr

theorem takeLsb_suffix {n v : Nat} {bs rest : List Bool} (h : takeLsb n bs = some (v, rest)) : rest <:+ bs :=
  takeLsb_eq_drop h ▸ List.drop_suffix n bs

theorem takeMsb_suffix {n acc v : Nat} {bs rest : List Bool} (h : takeMsb n acc bs = some (v, rest)) : rest <:+ bs := by
  induction n generalizing acc bs with
  | zero => cases h; exact List.suffix_refl _
  | succ n ih =>
    cases bs with
    | nil => cases h
    | cons b bs => exact (ih h).trans (List.suffix_cons b bs)

theorem takeByte_eq_drop {x : Byte} {bs rest : List Bool} (h : takeByte bs = some (x, rest)) : rest = bs.drop 8 := by
  simp only [takeByte, Option.map_eq_some_iff, Prod.mk.injEq] at h
  obtain ⟨⟨v, rest'⟩, hr, _, rfl⟩ := h
  exact takeLsb_eq_drop hr

theorem takeBytes_suffix (n : Nat) (bs : List Bool) : (takeBytes n bs).2 <:+ bs := by
  induction n generalizing bs with
  | zero => exact List.suffix_refl _
  | succ n ih =>
    rw [takeBytes]
    split
    · exact List.suffix_refl _
    next x rest hb =>
      have hrest : rest <:+ bs := takeByte_eq_drop hb ▸ List.drop_suffix 8 _
      exact (ih rest).trans hrest

theorem decodeLitLenFrom_suffix {fuel len code sym : Nat} {bs rest : List Bool}
    (h : decodeLitLenFrom fuel len code bs = some (sym, rest)) : rest <:+ bs := by
  induction fuel generalizing len code bs with
  | zero => cases h
  | succ fuel ih =>
    cases bs with
    | nil => cases h
    | cons b bs =>
      rw [decodeLitLenFrom] at h
      split at h
      · cases h; exact List.suffix_cons _ _
      · exact (ih h).trans (List.suffix_cons b bs)

theorem decodeBlockHeader_suffix {bs rest : List Bool} {i : Instr} (h : decodeBlockHeader bs = .ok (i, rest)) :
    rest <:+ bs := by
  unfold decodeBlockHeader at h
  split at h
  · cases h
  next f r hf =>
    split at h
    · cases h
    next t r' ht => cases h; exact (takeLsb_suffix ht).trans (takeLsb_suffix hf)

theorem decodeStoredBody_suffix {p : Nat} {bs rest : List Bool} {i : Instr} (h : decodeStoredBody p bs = .ok (i, rest)) :
    rest <:+ bs := by
  unfold decodeStoredBody at h
  dsimp only at h
  split at h
  · cases h
  next len r hlen =>
    split at h
    · cases h
    next nlen r' hnlen =>
      cases h
      exact (((takeBytes_suffix len r').trans (takeLsb_suffix hnlen)).trans (takeLsb_suffix hlen)).trans (List.drop_suffix _ bs)

theorem decodeLitLenElement_suffix {bs rest : List Bool} {i : Instr} (h : decodeLitLenElement bs = .ok (i, rest)) :
    rest <:+ bs := by
  unfold decodeLitLenElement at h
  split at h
  · cases h
  next sym r hsym =>
    have hcode : r <:+ bs := decodeLitLenFrom_suffix hsym
    split_ifs at h
    on_goal 4 =>
      split at h
      · cases h
      next e r' he =>
        simp only [Except.ok.injEq, Prod.mk.injEq] at h
        obtain ⟨-, rfl⟩ := h
        exact (takeLsb_suffix he).trans hcode
    all_goals cases h; exact hcode

theorem decodeDistanceElement_suffix {bs rest : List Bool} {i : Instr} (h : decodeDistanceElement bs = .ok (i, rest)) :
    rest <:+ bs := by
  unfold decodeDistanceElement at h
  split at h
  · cases h
  next j r hj =>
    split at h
    · cases h
    next e r' he => cases h; exact (takeLsb_suffix he).trans (takeMsb_suffix hj)

/-- An element of the channel-safe form is whole bytes (30_encoding.md R114). -/
theorem decodeEscape_eq_drop {bs rest : List Bool} {i : Instr} (h : decodeEscape bs = .ok (i, rest)) :
    ∃ n, 8 * n ≤ bs.length ∧ rest = bs.drop (8 * n) := by
  unfold decodeEscape at h
  split at h
  · split at h <;> cases h
  next x r hx =>
    have hr := takeByte_eq_drop hx
    have hlen := takeByte_length hx
    split at h
    · cases h; exact ⟨1, by omega, hr⟩
    · split at h
      · cases h; exact ⟨1, by omega, hr⟩
      next f r' hf =>
        cases h
        have hlen' := takeByte_length hf
        exact ⟨2, by omega, by rw [takeByte_eq_drop hf, hr, List.drop_drop]⟩

theorem decodePrintChar_eq_drop {bs rest : List Bool} {i : Instr} (h : decodePrintChar bs = .ok (i, rest)) :
    rest = bs.drop 8 := by
  unfold decodePrintChar at h
  split at h
  · split at h <;> cases h
  next c r hc => cases h; exact takeByte_eq_drop hc

theorem decodeStream_bits_suffix {c : StreamCtx} {p : Nat} {bs rest : List Bool} {i : Instr} (hc : c.readsBits = true)
    (h : decodeStream c p bs = .ok (i, rest)) : rest <:+ bs := by
  cases c with
  | blockHeader => exact decodeBlockHeader_suffix h
  | storedBody => exact decodeStoredBody_suffix h
  | litLen => exact decodeLitLenElement_suffix h
  | distance => exact decodeDistanceElement_suffix h
  | _ => cases hc

theorem decodeStream_bytes_eq_drop {c : StreamCtx} {p : Nat} {bs rest : List Bool} {i : Instr} (hc : c.readsBytes = true)
    (h : decodeStream c p bs = .ok (i, rest)) : ∃ n, 8 * n ≤ bs.length ∧ rest = bs.drop (8 * n) := by
  cases c with
  | escape => exact decodeEscape_eq_drop h
  | print | printPad => exact ⟨1, by have := decodePrintChar_length h; omega, decodePrintChar_eq_drop h⟩
  | _ => cases hc

theorem bytesBits_drop (n : Nat) (xs : List Byte) : (bytesBits xs).drop (8 * n) = bytesBits (xs.drop n) := by
  induction n generalizing xs with
  | zero => rfl
  | succ n ih =>
    cases xs with
    | nil => simp [bytesBits]
    | cons x xs =>
      have hbyte : (byteBits x).drop (8 * (n + 1)) = [] := List.drop_eq_nil_of_le (by simp)
      have hrest : 8 * (n + 1) - 8 = 8 * n := by omega
      rw [List.drop_succ_cons, ← ih xs, show bytesBits (x :: xs) = byteBits x ++ bytesBits xs by simp [bytesBits],
        List.drop_append, hbyte, Machine.length_byteBits, hrest, List.nil_append]

end Sys2Proof

namespace Sys2Proof.Machine

/-! ### What the cursor leaves -/

theorem Memory.bytes_drop (m : Memory) (a n k : Nat) : (m.bytes a n).drop k = m.bytes (a + k) (n - k) := by
  apply List.ext_getElem (by simp)
  intro i h1 h2
  simp [Memory.bytes, Nat.add_assoc]

/-- The reader's cursor `n` bits on leaves the bits from there on (40_bitstream.md R137). -/
theorem readerBits_advanceBits (n : Nat) (s : State) : readerBits (advanceBits n s) = (readerBits s).drop n := by
  have hsplit : s.rbit.toNat + n = 8 * ((s.rbit.toNat + n) / 8) + (s.rbit.toNat + n) % 8 := by omega
  have hrend : s.rend - (s.rpos + (s.rbit.toNat + n) / 8) = s.rend - s.rpos - (s.rbit.toNat + n) / 8 := by omega
  simp only [readerBits, advanceBits_inBuf, advanceBits_rpos, advanceBits_rend, advanceBits_rbit, BitVec.toNat_ofNat]
  rw [List.drop_drop, hrend, ← Memory.bytes_drop, ← bytesBits_drop, List.drop_drop, ← hsplit]

theorem unreadBits_of_readsBytes {s : State} (h : s.micro.readsBytes = true) :
    unreadBits s = bytesBits (s.inBuf.bytes s.ipos (s.inLen - s.ipos)) := by
  unfold unreadBits
  cases hm : s.micro with
  | escape | print | printPad => rfl
  | _ => rw [hm] at h; cases h

theorem unreadBits_withIpos {s : State} (h : s.micro.readsBytes = true) (n : Nat) :
    unreadBits { s with ipos := s.ipos + n } = (unreadBits s).drop (8 * n) := by
  rw [unreadBits_of_readsBytes (s := { s with ipos := s.ipos + n }) h, unreadBits_of_readsBytes h, bytesBits_drop,
    Memory.bytes_drop]
  dsimp only
  rw [Nat.sub_add_eq]

/-- Settles O3: what a decoder leaves is what the cursor, moved by the bits it took, leaves unread. -/
theorem theCursorMovesPastTheElement : Obligations.TheCursorMovesPastTheElement := by
  rintro s i rest - hs ⟨h1, h2, h3, h4⟩ hd
  have hfetch : fetch s = .element i (moveCursor ((unreadBits s).length - rest.length) s) := by unfold fetch; rw [hd]
  refine ⟨_, hfetch, ?_⟩
  rcases s.micro.reads_cases with hc | hc | hc
  · have hlt := (decodeStream_bits hc hd).2
    have hlen : (unreadBits s).length = bitsLeft s := by rw [unreadBits_of_readsBits hc, length_readerBits]
    rw [moveCursor_of_readsBits hc]
    refine ⟨?_, advanceBits_cursorsOk hs (by omega), hlt, Nat.le_add_right _ _, Nat.le_refl _, rfl⟩
    rw [unreadBits_of_readsBits (s := advanceBits _ s) hc, readerBits_advanceBits, ← unreadBits_of_readsBits hc]
    exact (List.suffix_iff_eq_drop.1 (decodeStream_bits_suffix hc hd)).symm
  · have hle := (decodeStream_bytes hc hd).2
    have hlen := length_unreadBits_of_readsBytes hc
    obtain ⟨n, hn, rfl⟩ := decodeStream_bytes_eq_drop hc hd
    rw [List.length_drop] at hle ⊢
    obtain ⟨hbase, hend, hinLen, hbit, hipos⟩ := (cursorsOk_iff s).1 hs
    have hmoved : ((unreadBits s).length - ((unreadBits s).length - 8 * n)) / 8 = n := by omega
    rw [moveCursor_of_readsBytes hc, hmoved]
    refine ⟨unreadBits_withIpos hc n, (cursorsOk_iff _).2 ⟨hbase, hend, hinLen, hbit, ?_⟩, ?_, Nat.le_refl _,
      Nat.le_add_right _ _, rfl⟩
    · dsimp only; omega
    · omega
  · cases hm : s.micro with
    | zlibCmf => exact absurd hm h1
    | zlibFlg => exact absurd hm h2
    | zlibPayload => exact absurd hm h3
    | zlibTrailer => exact absurd hm h4
    | _ => rw [hm] at hc; cases hc

end Sys2Proof.Machine
end

section
/-! PROOFS. The checksum a pass computes (46_adler32.md R261, R263, R266), and `RESULT` after each command (10_state.md R26,
60_exceptions.md R333). -/

namespace Sys2Proof.Machine

/-! ### The checksum in closed form -/

/-- The sums of a pass begun at reduced sums `a` and `b`: each byte adds to `a` once and to `b` as often as bytes follow, itself
counted (R266). -/
theorem adlerSteps_sums (xs : List Byte) {s : State} (ha : s.a.toNat < 65521) (hb : s.b.toNat < 65521) :
    (adlerSteps xs s).a.toNat = (s.a.toNat + (xs.map BitVec.toNat).sum) % 65521 ∧
      (adlerSteps xs s).b.toNat = (s.b.toNat + xs.length * s.a.toNat + Ref.weightedSum xs) % 65521 := by
  induction xs generalizing s with
  | nil => simp [adlerSteps, Ref.weightedSum, Nat.mod_eq_of_lt ha, Nat.mod_eq_of_lt hb]
  | cons x xs ih =>
    have hstepA : (adlerStep x s).a.toNat = (s.a.toNat + x.toNat) % 65521 := by
      simp only [adlerStep_a, Rom.adlerMod, BitVec.toNat_ofNat]; omega
    have hstepB : (adlerStep x s).b.toNat = (s.b.toNat + (s.a.toNat + x.toNat)) % 65521 := by
      simp only [adlerStep_b, Rom.adlerMod, BitVec.toNat_ofNat]; omega
    obtain ⟨hA, hB⟩ := ih (s := adlerStep x s) (by omega) (by omega)
    constructor
    · rw [adlerSteps, hA, hstepA, Nat.mod_add_mod, List.map_cons, List.sum_cons, Nat.add_assoc]
    · rw [adlerSteps, hB, hstepA, hstepB, Ref.weightedSum, List.length_cons]
      have hmod : s.b.toNat + (s.a.toNat + x.toNat) + xs.length * (s.a.toNat + x.toNat) + Ref.weightedSum xs =
          s.b.toNat + (xs.length + 1) * s.a.toNat + ((xs.length + 1) * x.toNat + Ref.weightedSum xs) := by ring
      rw [← hmod]
      exact (((Nat.mod_modEq _ _).add ((Nat.mod_modEq _ _).mul_left _)).add_right _)

/-- The value of a checksum pass is the checksum of its bytes (R263, R266). -/
theorem adlerValue_adlerPass (xs : List Byte) (s : State) : adlerValue (adlerPass xs s) = Ref.adler xs := by
  obtain ⟨hA, hB⟩ := adlerSteps_sums xs (s := { s with a := 1#16, b := 0#16 }) (by simp) (by simp)
  have hA' : (adlerPass xs s).a.toNat = Ref.adlerA xs := hA
  have hB' : (adlerPass xs s).b.toNat = Ref.adlerB xs := by rw [adlerPass, hB, Ref.adlerB]; simp
  have hlt : Ref.adlerA xs < 2 ^ 16 := hA' ▸ (adlerPass xs s).a.isLt
  have hlt' : Ref.adlerB xs < 2 ^ 16 := hB' ▸ (adlerPass xs s).b.isLt
  apply BitVec.eq_of_toNat_eq
  rw [adlerValue, BitVec.toNat_append, hA', hB', ← Nat.shiftLeft_add_eq_or_of_lt hlt, Nat.shiftLeft_eq, Ref.adler,
    BitVec.toNat_ofNat, Nat.mod_eq_of_lt (by omega)]

theorem adlerPass_output (xs : List Byte) (s : State) : (adlerPass xs s).output = s.output := by
  rw [adlerPass_frame]; rfl

/-! ### The decoders -/

/-- `DECOMPRESS` ends, or stands, by the moves of its decoder alone. -/
theorem execDecompress_decoderEnd {level : BitVec 4} {s t : State} (h : exec (.decompress level) s = .next t) :
    DecoderEnd false (atFirstBlock false (start s)) t := inflate_decoderEnd (s := atFirstBlock false (start s)) h

/-- `DECOMPRESS_ZLIB` too, and it has gone through its envelope. -/
theorem execDecompressZlib_decoderEnd {level : BitVec 4} {s t : State} (h : exec (.decompressZlib level) s = .next t) :
    DecoderEnd true { start s with micro := .zlibCmf } t := by
  refine (runWhile_keeps (P := fun u => DecoderEnd true { start s with micro := .zlibCmf } u ∧
    (u.busy = true → 0 < u.micro.envelopeRounds)) ?_ h ⟨.running .refl, fun _ => Nat.succ_pos 3⟩).1
  rintro u v hb ⟨hu, hc⟩ hv
  refine ⟨.trans (hu.decodes_of_busy hb) (envelope_decoderEnd (hc hb) hv), fun hbv => ?_⟩
  obtain ⟨w, hw, hnext⟩ := envelopeWithin_step u.micro.envelopeRounds u hb ⟨hc hb, Nat.le_succ _⟩
  cases hv.symm.trans ((step_running hb).symm.trans hw)
  exact (hnext hbv).1

theorem onlyReader.result {s t : State} (h : onlyReader s t) : t.result = s.result := by rw [h]

/-- A decoder that `DECOMPRESS_ZLIB` has not called computes no checksum. -/
theorem DecoderEnd.result {s t : State} (h : DecoderEnd false s t) : t.result = s.result := by
  cases h with
  | running h => exact h.result
  | succeeded h => exact h.result
  | raised k _ h hv => rw [raise_result, hv.result, h.result]
  | checked _ _ hz => cases hz

/-- The code 5 is that of `ChecksumMismatch` (60_exceptions.md R320), which leaves no output open (R332). -/
theorem ErrorKind.code_ne_of_not_keepsOut {k : ErrorKind} (h : k.keepsOut = false) : k.code ≠ 5#4 := by
  cases k with
  | checksumMismatch | illegalCommand => cases h
  | _ => decide

/-- The trailer's checksum is that of the bytes in `OUT`, which stay there (45_zlib.md R247, 60_exceptions.md R332, R333). -/
theorem execZlibAdler32_result {sum : BitVec 32} {s t : State} (h : execZlibAdler32 sum s = .next t) :
    (t.ok = true ∨ t.err = 5#4) ∧ t.output = s.output ∧ t.result = Ref.adler s.output := by
  have hvalue := adlerValue_adlerPass s.output s
  have hout := adlerPass_output s.output s
  rcases execZlibAdler32_cases h with rfl | rfl
  · exact ⟨.inl (succeed_ok _), hout, hvalue⟩
  · refine ⟨.inr (raise_err _ _), ?_, ?_⟩
    · rw [raise_keeps rfl]; exact hout
    · rw [raise_result]; exact hvalue

/-- `RESULT` where `DECOMPRESS_ZLIB` stands or has ended. -/
theorem DecoderEnd.zlib_result {s t : State} (h : DecoderEnd true s t) (hs : s.status = statusRunning) :
    (t.ok = true ∨ t.err = 5#4 → t.result = Ref.adler t.output) ∧ (t.ok = false → t.err ≠ 5#4 → t.result = s.result) := by
  cases h with
  | running h =>
    have hstatus := h.status
    have hok : t.ok = false := by rw [State.ok, hstatus, hs]; decide
    have herr : t.err ≠ 5#4 := by rw [State.err, hstatus, hs]; decide
    exact ⟨fun hend => absurd hend (by simp [hok, herr]), fun _ _ => h.result⟩
  | succeeded _ hz => cases hz
  | raised k hk h hv =>
    refine ⟨fun hend => absurd hend ?_, fun _ _ => by rw [raise_result, hv.result, h.result]⟩
    simp [ErrorKind.code_ne_of_not_keepsOut hk]
  | checked sum _ _ ht =>
    obtain ⟨hend, hout, hresult⟩ := execZlibAdler32_result ht
    refine ⟨fun _ => by rw [hout, hresult], fun hok herr => absurd hend ?_⟩
    simp [hok, herr]

/-- A text decoder computes no checksum. -/
theorem runStream_text_result {n : Nat} {s t : State} (hc : s.micro.readsBytes = true) (h : runStream n s = .next t) :
    t.result = s.result := by
  refine (runWhile_keeps (P := fun u => u.result = s.result ∧ (u.busy = true → u.micro.readsBytes = true)) ?_ h
    ⟨rfl, fun _ => hc⟩).1
  rintro u v hb ⟨hu, hcu⟩ hv
  refine ⟨(streamStep_text_result (hcu hb) hv).trans hu, fun hbv => ?_⟩
  obtain ⟨w, hw, hnext⟩ := textWithin_step (u.inLen - u.ipos) u hb ⟨hcu hb, Nat.lt_succ_self _⟩
  cases hv.symm.trans ((step_running hb).symm.trans hw)
  exact (hnext hbv).1

/-! ### The commands -/

theorem execCompressZlib_result {level : BitVec 4} {s t : State} (h : execCompressZlib level s = .next t) :
    t.result = Ref.adler s.input := by
  have hvalue := adlerValue_adlerPass s.input (compressBody level (append Rom.zlibFlg (append Rom.zlibCmf (start s))))
  unfold execCompressZlib at h
  injection h with h
  rw [← h, ← hvalue]
  rfl

theorem execAdler32_result {level : BitVec 4} {s t : State} (h : execAdler32 level s = .next t) :
    t.result = Ref.adler s.input := by
  have hvalue := adlerValue_adlerPass s.input (start s)
  unfold execAdler32 at h
  injection h with h
  rw [← h, ← hvalue]
  rfl

/-- Every command that computes no checksum leaves in `RESULT` the 0 that START put there (10_state.md R26). -/
theorem exec_result_zero {i : Instr} (hi : i.ctx = none)
    (hno : ∀ level, i ≠ .adler32 level ∧ i ≠ .compressZlib level ∧ i ≠ .decompressZlib level) {s t : State}
    (h : exec i s = .next t) : t.result = 0#32 := by
  cases i with
  | compress level => obtain ⟨u, hu, he⟩ := execCompress_encodes level s; cases h.symm.trans he; exact hu.result
  | encodeChannel level => obtain ⟨u, hu, he⟩ := execEncodeChannel_encodes level s; cases h.symm.trans he; exact hu.result
  | encodePrint level => obtain ⟨u, hu, he⟩ := execEncodePrint_encodes level s; cases h.symm.trans he; exact hu.result
  | decompress => exact (execDecompress_decoderEnd h).result
  | decodeChannel => exact runStream_text_result (s := { start s with micro := .escape }) rfl h
  | decodePrint => exact runStream_text_result (s := { start s with micro := .print }) rfl h
  | illegalOp0 | illegalOpAB | illegalOpCF | illegalLevel1011 | illegalLevel1215 => cases h; exact raise_result _ (start s)
  | adler32 level => exact absurd rfl (hno level).1
  | compressZlib level => exact absurd rfl (hno level).2.1
  | decompressZlib level => exact absurd rfl (hno level).2.2
  | _ => cases hi

/-- Settles O56: a command either writes the checksum of its own pass, or never touches the `RESULT` that START cleared. -/
theorem resultRegisterAfterEachCommand : Obligations.ResultRegisterAfterEachCommand := by
  intro s t hb h
  rw [step_idle hb] at h
  have hcommand := decodeCommand_ctx s.cmd
  generalize decodeCommand s.cmd = i at h hcommand
  refine ⟨?_, ?_, fun hno => exec_result_zero hcommand hno h⟩
  · rintro ⟨level, rfl | rfl⟩
    · exact execAdler32_result (level := level) h
    · exact execCompressZlib_result (level := level) h
  · rintro ⟨level, rfl⟩
    exact (execDecompressZlib_decoderEnd (level := level) h).zlib_result rfl

end Sys2Proof.Machine
end

section
/-! PROOFS. `MAXOUT` bounds the output of the two decompress commands (10_state.md R25, 44_deflate_decoder.md R212), and every
other command commutes with a change of it: none of their operations reads it. -/

namespace Sys2Proof.Machine

/-! ### The bound -/

/-- The trailer adds nothing to the output. -/
theorem execZlibAdler32_outLen {sum : BitVec 32} {s t : State} (h : execZlibAdler32 sum s = .next t) :
    t.outLen = s.outLen := by
  have hpass := adlerPass_frame s.output s
  generalize hsums : adlerPass s.output s = sums at hpass
  rcases execZlibAdler32_cases h with rfl | rfl <;> rw [hsums]
  · rw [hpass]; rfl
  · rw [raise_keeps rfl, hpass]

/-- Where a decoder ends with an output that the spec fixes, the output is within the bound. -/
theorem DecoderEnd.outLen_le_maxOut {z : Bool} {s t : State} (h : DecoderEnd z s t) (hs : s.outLen = 0)
    (hmax : s.maxOut ≠ 0) (hend : t.ok = true ∨ t.err = 5#4) : t.outLen ≤ s.maxOut := by
  have hwithin {u : State} (hu : Decodes s u) : u.outLen ≤ s.maxOut :=
    hu.maxOut ▸ hu.withinMaxOut (fun _ => hs ▸ Nat.zero_le _) (hu.maxOut ▸ hmax)
  cases h with
  | running h => exact hwithin h
  | succeeded h => exact (hwithin h :)
  | raised k hk => exact absurd hend (by simp [ErrorKind.code_ne_of_not_keepsOut hk])
  | checked sum h _ ht => exact execZlibAdler32_outLen ht ▸ hwithin h

/-! ### A change of `MAXOUT` -/

/-- The state with another `MAXOUT`. -/
def State.withMaxOut (m : Nat) (s : State) : State := { s with maxOut := m }

@[simp] theorem withMaxOut_inLen (m : Nat) (s : State) : (s.withMaxOut m).inLen = s.inLen := rfl
@[simp] theorem withMaxOut_inBuf (m : Nat) (s : State) : (s.withMaxOut m).inBuf = s.inBuf := rfl
@[simp] theorem withMaxOut_ipos (m : Nat) (s : State) : (s.withMaxOut m).ipos = s.ipos := rfl
@[simp] theorem withMaxOut_bestLen (m : Nat) (s : State) : (s.withMaxOut m).bestLen = s.bestLen := rfl
@[simp] theorem withMaxOut_bestDist (m : Nat) (s : State) : (s.withMaxOut m).bestDist = s.bestDist := rfl

/-- The operation neither reads nor writes `MAXOUT`. -/
def IgnoresMaxOut (f : State → State) : Prop := ∀ m s, f (s.withMaxOut m) = (f s).withMaxOut m

theorem IgnoresMaxOut.comp {f g : State → State} (hf : IgnoresMaxOut f) (hg : IgnoresMaxOut g) :
    IgnoresMaxOut fun s => f (g s) := fun m s => (congrArg f (hg m s)).trans (hf m (g s))

theorem IgnoresMaxOut.ite {p : State → Prop} [DecidablePred p] {f g : State → State} (hp : ∀ m s, p (s.withMaxOut m) ↔ p s)
    (hf : IgnoresMaxOut f) (hg : IgnoresMaxOut g) : IgnoresMaxOut fun s => if p s then f s else g s := fun m s => by
  simp only [hp, hf m s, hg m s, apply_ite (State.withMaxOut m)]

theorem start_ignoresMaxOut : IgnoresMaxOut start := fun _ _ => rfl

theorem append_ignoresMaxOut (x : Byte) : IgnoresMaxOut (append x) := fun _ _ => rfl

theorem appendAll_ignoresMaxOut (xs : List Byte) : IgnoresMaxOut (appendAll xs) := by
  induction xs with
  | nil => exact fun _ _ => rfl
  | cons x xs ih => exact ih.comp (append_ignoresMaxOut x)

theorem raise_ignoresMaxOut (k : ErrorKind) : IgnoresMaxOut (raise k) := fun m s => by
  unfold raise
  split <;> rfl

theorem writeBit_ignoresMaxOut (bit : Bool) : IgnoresMaxOut (writeBit bit) :=
  .ite (p := fun s => s.wcnt = 7#3) (fun _ _ => Iff.rfl) (fun _ _ => rfl) fun _ _ => rfl

theorem flush_ignoresMaxOut : IgnoresMaxOut flush :=
  .ite (p := fun s => s.wcnt = 0#3) (fun _ _ => Iff.rfl) (fun _ _ => rfl) fun _ _ => rfl

theorem writeBitList_ignoresMaxOut (bits : List Bool) : IgnoresMaxOut (writeBitList bits) := by
  induction bits with
  | nil => exact fun _ _ => rfl
  | cons b bits ih => exact ih.comp (writeBit_ignoresMaxOut b)

theorem writeBits_ignoresMaxOut (v n : Nat) : IgnoresMaxOut (writeBits v n) := writeBitList_ignoresMaxOut _

theorem writeCode_ignoresMaxOut (code len : Nat) : IgnoresMaxOut (writeCode code len) := writeBitList_ignoresMaxOut _

theorem adlerPass_ignoresMaxOut (xs : List Byte) : IgnoresMaxOut (adlerPass xs) := by
  have hsteps : IgnoresMaxOut (adlerSteps xs) := by
    induction xs with
    | nil => exact fun _ _ => rfl
    | cons x xs ih => exact ih.comp (g := adlerStep x) fun _ _ => rfl
  exact hsteps.comp (g := fun s => { s with a := 1#16, b := 0#16 }) fun _ _ => rfl

/-! ### The encoders -/

theorem writeStoredBlock_ignoresMaxOut (final : Bool) (data : List Byte) : IgnoresMaxOut (writeStoredBlock final data) := by
  have hdata : IgnoresMaxOut fun s => data.foldl (fun t x => writeBits x.toNat 8 t) s := by
    induction data with
    | nil => exact fun _ _ => rfl
    | cons x xs ih =>
      intro m s
      simp only [List.foldl_cons, writeBits_ignoresMaxOut x.toNat 8 m s]
      exact ih m _
  intro m s
  simp only [writeStoredBlock, writeBits_ignoresMaxOut _ _ m, flush_ignoresMaxOut m]
  exact hdata m _

theorem storedRound_ignoresMaxOut : IgnoresMaxOut storedRound := fun m s =>
  congrArg (fun t : State => { t with ipos := t.ipos + min Rom.storedMax (s.inLen - s.ipos) })
    (writeStoredBlock_ignoresMaxOut _ _ m s)

theorem compressStoredLoop_ignoresMaxOut (fuel : Nat) : IgnoresMaxOut (compressStoredLoop fuel) := by
  induction fuel with
  | zero => exact fun _ _ => rfl
  | succ fuel ih =>
    intro m s
    simp only [compressStoredLoop_succ, withMaxOut_inLen, withMaxOut_ipos, storedRound_ignoresMaxOut m, ih m,
      apply_ite (State.withMaxOut m)]

theorem compressStored_ignoresMaxOut : IgnoresMaxOut compressStored := fun m s =>
  compressStoredLoop_ignoresMaxOut _ m { s with ipos := 0 }

theorem advance_ignoresMaxOut (n : Nat) : IgnoresMaxOut (advance n) := by
  induction n with
  | zero => exact fun _ _ => rfl
  | succ n ih =>
    exact ih.comp (g := fun s => { winPush (s.inBuf.read s.ipos) s with ipos := s.ipos + 1 }) fun _ _ => rfl

theorem emitMatch_ignoresMaxOut (len dist : Nat) : IgnoresMaxOut (emitMatch len dist) :=
  ((writeBits_ignoresMaxOut _ _).comp (writeCode_ignoresMaxOut _ _)).comp
    ((writeBits_ignoresMaxOut _ _).comp (writeCode_ignoresMaxOut _ _))

theorem symbolRound_ignoresMaxOut : IgnoresMaxOut symbolRound := by
  intro m s
  have hfind : findMatch s.ipos (s.withMaxOut m) = (findMatch s.ipos s).withMaxOut m := rfl
  simp only [symbolRound, withMaxOut_ipos, hfind, withMaxOut_inBuf, withMaxOut_bestLen, withMaxOut_bestDist, emitLiteral,
    putLitLen, emitMatch_ignoresMaxOut _ _ m, writeCode_ignoresMaxOut _ _ m, advance_ignoresMaxOut _ m,
    apply_ite (State.withMaxOut m)]

theorem compressFixedLoop_ignoresMaxOut (fuel : Nat) : IgnoresMaxOut (compressFixedLoop fuel) := by
  induction fuel with
  | zero => exact fun _ _ => rfl
  | succ fuel ih =>
    intro m s
    simp only [compressFixedLoop_succ, withMaxOut_inLen, withMaxOut_ipos, symbolRound_ignoresMaxOut m, ih m,
      apply_ite (State.withMaxOut m)]

theorem compressFixed_ignoresMaxOut : IgnoresMaxOut compressFixed := by
  intro m s
  have hwindow (u : State) : { u.withMaxOut m with ipos := 0, wptr := 0#15, wfill := 0#16 } =
      ({ u with ipos := 0, wptr := 0#15, wfill := 0#16 } : State).withMaxOut m := rfl
  simp only [compressFixed, emitEob, putLitLen, writeBits_ignoresMaxOut _ _ m, hwindow, compressFixedLoop_ignoresMaxOut _ m,
    writeCode_ignoresMaxOut _ _ m, flush_ignoresMaxOut m]
  simp only [withMaxOut_inLen]

theorem compressBody_ignoresMaxOut (level : BitVec 4) : IgnoresMaxOut (compressBody level) := by
  unfold compressBody
  split
  · exact compressStored_ignoresMaxOut
  · exact compressFixed_ignoresMaxOut

theorem escapeAll_ignoresMaxOut (xs : List Byte) : IgnoresMaxOut (escapeAll xs) := by
  induction xs with
  | nil => exact fun _ _ => rfl
  | cons x xs ih =>
    exact ih.comp (IgnoresMaxOut.comp (f := fun s => { s with ipos := s.ipos + 1 }) (fun _ _ => rfl)
      (appendAll_ignoresMaxOut (escapeByte x)))

theorem encodeGroup_ignoresMaxOut (g : BitVec 24) (chars pads bytes : Nat) :
    IgnoresMaxOut (encodeGroup g chars pads bytes) :=
  IgnoresMaxOut.comp (f := fun s => { s with ipos := s.ipos + bytes }) (fun _ _ => rfl)
    ((appendAll_ignoresMaxOut _).comp (g := fun s => { s with grp := g }) fun _ _ => rfl)

theorem encodeGroups_ignoresMaxOut (xs : List Byte) : IgnoresMaxOut (encodeGroups xs) := by
  intro m s
  induction xs, s using encodeGroups.induct with
  | case1 b0 b1 b2 rest s ih => simp only [encodeGroups, encodeGroup_ignoresMaxOut _ _ _ _ m, ih]
  | case2 | case3 => exact encodeGroup_ignoresMaxOut _ _ _ _ _ _
  | case4 => rfl

/-! ### The text decoders -/

theorem shiftIndex_ignoresMaxOut (k : Nat) : IgnoresMaxOut (shiftIndex k) :=
  .ite (p := fun s => s.gcnt = 3#3) (fun _ _ => Iff.rfl)
    (fun m s => appendAll_ignoresMaxOut _ m { s with grp := (s.grp <<< 6) ||| BitVec.ofNat 24 k, gcnt := 0#3 })
    fun _ _ => rfl

theorem alphabetChar_ignoresMaxOut (c : Byte) : IgnoresMaxOut (alphabetChar c) := by
  unfold alphabetChar
  cases Rom.b64Inv c with
  | none => exact raise_ignoresMaxOut _
  | some k =>
    exact .ite (p := fun s => padCount s = 0) (fun _ _ => Iff.rfl) (shiftIndex_ignoresMaxOut k) (raise_ignoresMaxOut _)

theorem endOfText_ignoresMaxOut : IgnoresMaxOut endOfText := by
  have hlast (g : BitVec 24 → BitVec 24) (n : Nat) : IgnoresMaxOut fun s => succeed (lastGroup (g s.grp) n s) := fun m s =>
    congrArg succeed (appendAll_ignoresMaxOut _ m { s with grp := g s.grp })
  exact .ite (p := fun s => 2 < padCount s ∨ s.gcnt.toNat = 1 ∨ (0 < padCount s ∧ (s.gcnt.toNat + padCount s) % 4 ≠ 0))
    (fun _ _ => Iff.rfl) (raise_ignoresMaxOut _)
    (.ite (p := fun s => s.gcnt.toNat = 2) (fun _ _ => Iff.rfl) (hlast (· <<< 12) 1)
      (.ite (p := fun s => s.gcnt.toNat = 3) (fun _ _ => Iff.rfl) (hlast (· <<< 6) 2) fun _ _ => rfl))

theorem endOfInput_ignoresMaxOut : IgnoresMaxOut endOfInput := fun m s => by
  have htext := endOfText_ignoresMaxOut m s
  unfold endOfInput
  rw [show (s.withMaxOut m).micro = s.micro from rfl]
  cases s.micro with
  | print | printPad => exact htext
  | _ => rfl

theorem exec_text_ignoresMaxOut {i : Instr} (hi : i.ctx = some .escape ∨ i.ctx = some .print) (m : Nat) {s t : State}
    (h : exec i s = .next t) : exec i (s.withMaxOut m) = .next (t.withMaxOut m) := by
  cases i with
  | esc00 | esc01 | escFF | escPlain | b64Pad | b64Ws => cases h; rfl
  | escInvalid | b64Invalid => cases h; exact congrArg _ (raise_ignoresMaxOut _ m s)
  | b64Upper | b64Lower | b64Digit | b64Plus | b64Slash => cases h; exact congrArg _ (alphabetChar_ignoresMaxOut _ m s)
  | _ => rcases hi with hi | hi <;> cases hi

theorem unreadBits_withMaxOut (m : Nat) (s : State) : unreadBits (s.withMaxOut m) = unreadBits s := rfl

theorem moveCursor_ignoresMaxOut (n : Nat) : IgnoresMaxOut (moveCursor n) := fun m s => by
  unfold moveCursor
  rw [show (s.withMaxOut m).micro = s.micro from rfl]
  cases s.micro <;> rfl

/-- What a text decoder meets next does not depend on `MAXOUT`, and neither does what it does about it. -/
theorem streamStep_text_withMaxOut (m : Nat) {s t : State} (hc : s.micro.readsBytes = true) (h : streamStep s = .next t) :
    streamStep (s.withMaxOut m) = .next (t.withMaxOut m) := by
  have hcut : cutElement (s.withMaxOut m) = s.withMaxOut m := cutElement_of_readsBytes hc
  unfold streamStep streamStepWith fetch at h ⊢
  rw [unreadBits_withMaxOut, show (s.withMaxOut m).micro = s.micro from rfl, show (s.withMaxOut m).rbit = s.rbit from rfl]
  cases hd : decodeStream s.micro s.rbit.toNat (unreadBits s) with
  | ok p =>
    obtain ⟨i, rest⟩ := p
    have hi := (decodeStream_bytes hc hd).1
    have hctx : i.ctx ≠ none := by rcases hi with hi | hi <;> simp [hi]
    rw [hd] at h
    dsimp only at h ⊢
    rw [streamElement_eq_exec hctx] at h ⊢
    rw [moveCursor_ignoresMaxOut]
    exact exec_text_ignoresMaxOut hi m h
  | error e =>
    rw [hd] at h
    cases e with
    | truncated =>
      dsimp only at h ⊢
      rw [cutElement_of_readsBytes hc] at h
      cases h
      rw [hcut, raise_ignoresMaxOut]
    | endOfInput => cases h; exact congrArg _ (endOfInput_ignoresMaxOut m s)

theorem runStream_text_withMaxOut (m n : Nat) {s t : State} (hc : s.busy = true → s.micro.readsBytes = true)
    (h : runStream n s = .next t) : runStream n (s.withMaxOut m) = .next (t.withMaxOut m) := by
  unfold runStream at h ⊢
  induction n generalizing s with
  | zero => cases h; rfl
  | succ n ih =>
    rw [runWhile] at h ⊢
    rw [show (s.withMaxOut m).busy = s.busy from rfl]
    cases hb : s.busy with
    | false => rw [hb] at h; cases h; rfl
    | true =>
      obtain ⟨u, hu, hnext⟩ := textWithin_step (s.inLen - s.ipos) s hb ⟨hc hb, Nat.lt_succ_self _⟩
      rw [step_running hb] at hu
      rw [hb, hu] at h
      rw [streamStep_text_withMaxOut m (hc hb) hu]
      exact ih (fun hbu => (hnext hbu).1) h

/-! ### The commands -/

theorem execCompressZlib_withMaxOut (level : BitVec 4) (m : Nat) {s t : State} (h : execCompressZlib level s = .next t) :
    execCompressZlib level (s.withMaxOut m) = .next (t.withMaxOut m) := by
  have hpayload := (compressBody_ignoresMaxOut level).comp ((append_ignoresMaxOut Rom.zlibFlg).comp
    ((append_ignoresMaxOut Rom.zlibCmf).comp start_ignoresMaxOut))
  have hsums := (adlerPass_ignoresMaxOut s.input).comp hpayload m s
  unfold execCompressZlib at h ⊢
  injection h with h
  dsimp only at hsums ⊢
  rw [show (s.withMaxOut m).input = s.input from rfl, hsums, ← h]
  generalize adlerPass s.input _ = sums
  exact congrArg (fun u : State => Host.Outcome.next (succeed { u with result := adlerValue sums }))
    (appendAll_ignoresMaxOut (be32 (adlerValue sums)) m sums)

theorem execAdler32_withMaxOut (level : BitVec 4) (m : Nat) {s t : State} (h : execAdler32 level s = .next t) :
    execAdler32 level (s.withMaxOut m) = .next (t.withMaxOut m) := by
  have hsums := (adlerPass_ignoresMaxOut s.input).comp start_ignoresMaxOut m s
  unfold execAdler32 at h ⊢
  injection h with h
  dsimp only at hsums ⊢
  rw [show (s.withMaxOut m).input = s.input from rfl, hsums, ← h]
  generalize adlerPass s.input _ = sums
  rfl

/-- Every command but the two decompressors commutes with a change of `MAXOUT`. -/
theorem exec_withMaxOut {i : Instr} (hi : i.ctx = none) (hno : ∀ level, i ≠ .decompress level ∧ i ≠ .decompressZlib level)
    (m : Nat) {s t : State} (h : exec i s = .next t) : exec i (s.withMaxOut m) = .next (t.withMaxOut m) := by
  have hencoder {f : State → State} (hf : IgnoresMaxOut f) :
      (Host.Outcome.next (succeed (f (start (s.withMaxOut m)))) : Answer) = .next ((succeed (f (start s))).withMaxOut m) :=
    congrArg (fun u => Host.Outcome.next (succeed u)) (hf m (start s))
  cases i with
  | compress level => cases h; exact hencoder (compressBody_ignoresMaxOut level)
  | encodeChannel => cases h; exact hencoder (escapeAll_ignoresMaxOut s.input)
  | encodePrint => cases h; exact hencoder (encodeGroups_ignoresMaxOut s.input)
  | compressZlib level => exact execCompressZlib_withMaxOut level m h
  | adler32 level => exact execAdler32_withMaxOut level m h
  | decodeChannel =>
    exact runStream_text_withMaxOut m (s.inLen + 1) (s := { start s with micro := .escape }) (fun _ => rfl) h
  | decodePrint =>
    exact runStream_text_withMaxOut m (s.inLen + 1) (s := { start s with micro := .print }) (fun _ => rfl) h
  | illegalOp0 | illegalOpAB | illegalOpCF | illegalLevel1011 | illegalLevel1215 =>
    cases h; exact congrArg _ (raise_ignoresMaxOut _ m (start s))
  | decompress level => exact absurd rfl (hno level).1
  | decompressZlib level => exact absurd rfl (hno level).2
  | _ => cases hi

/-- Settles O58: a decompressor puts a byte only where `MAXOUT` leaves room, and no operation of the other commands reads it. -/
theorem maxOutBoundsOnlyTheDecompressors : Obligations.MaxOutBoundsOnlyTheDecompressors := by
  refine ⟨?_, fun i s t m hi hno h => exec_withMaxOut hi hno m h⟩
  rintro s t level (h | h) hmax hend
  · exact (execDecompress_decoderEnd h).outLen_le_maxOut (s := atFirstBlock false (start s)) rfl hmax hend
  · exact (execDecompressZlib_decoderEnd h).outLen_le_maxOut (s := { start s with micro := .zlibCmf }) rfl hmax hend

end Sys2Proof.Machine
end

section
/-! PROOFS. The window holds the last bytes of the sequence pushed into it (20_memory.md R64, R65), be it the decoder's output or
the encoder's input: one lemma about `WinPush`, used for both. -/

namespace Sys2Proof.Machine

/-! ### One push -/

/-- The window holds the last 32768 of the first `n` bytes of `bytes` (R65). -/
def State.windowTracks (s : State) (n : Nat) (bytes : Nat → Byte) : Prop :=
  s.wfill.toNat = min n 32768 ∧ s.wptr.toNat = n % 32768 ∧
    ∀ d, 1 ≤ d → d ≤ s.wfill.toNat → winAt d s = bytes (n - d)

/-- The decoder's window tracks its output. -/
theorem windowOk_iff (s : State) : s.windowOk ↔ s.windowTracks s.outLen s.outBuf.read := Iff.rfl

theorem windowTracks_of_empty {s : State} (hptr : s.wptr = 0#15) (hfill : s.wfill = 0#16) (bytes : Nat → Byte) :
    s.windowTracks 0 bytes := by
  refine ⟨by rw [hfill]; rfl, by rw [hptr]; rfl, fun d hpos hd => ?_⟩
  rw [hfill] at hd
  exact absurd (hpos.trans hd) (by decide)

/-- Distance 1 is the byte just pushed. -/
theorem winAt_one_winPush {s : State} (hwin : s.win.wf = true) (x : Byte) : winAt 1 (winPush x s) = x := by
  have haddr : (s.wptr + 1#15 - BitVec.ofNat 15 1).toNat = s.wptr.toNat := by bv_omega
  rw [winAt, winPush_wptr, winPush_win, haddr, Memory.read_write_same hwin]

/-- A push moves every other byte still in the window one distance on. -/
theorem winAt_succ_winPush {d : Nat} (hpos : 1 ≤ d) (hlt : d < 32768) (x : Byte) (s : State) :
    winAt (d + 1) (winPush x s) = winAt d s := by
  have haddr : s.wptr + 1#15 - BitVec.ofNat 15 (d + 1) = s.wptr - BitVec.ofNat 15 d := by bv_omega
  have hother : (s.wptr - BitVec.ofNat 15 d).toNat ≠ s.wptr.toNat := by bv_omega
  rw [winAt, winPush_wptr, winPush_win, haddr, Memory.read_write_other x hother, winAt]

/-- Pushing the next byte: the window tracks the sequence one byte further. The first `n` bytes may be read from elsewhere now,
since `Append` writes `OUT` in the same round. -/
theorem winPush_windowTracks {s : State} {n : Nat} {bytes bytes' : Nat → Byte} (hwin : s.win.wf = true)
    (h : s.windowTracks n bytes) (hsame : ∀ k, k < n → bytes' k = bytes k) :
    (winPush (bytes' n) s).windowTracks (n + 1) bytes' := by
  obtain ⟨hfill, hptr, hread⟩ := h
  have hfill' : (winPush (bytes' n) s).wfill.toNat = min (n + 1) 32768 := by
    rw [winPush_wfill, BitVec.toNat_ofNat, hfill, Rom.windowSize]; omega
  have hptr' : (winPush (bytes' n) s).wptr.toNat = (n + 1) % 32768 := by
    rw [winPush_wptr, BitVec.toNat_add, hptr, BitVec.toNat_ofNat]; omega
  refine ⟨hfill', hptr', fun d hpos hd => ?_⟩
  rw [hfill'] at hd
  obtain ⟨e, rfl⟩ := Nat.exists_eq_add_of_le' hpos
  rcases Nat.eq_zero_or_pos e with rfl | he
  · exact winAt_one_winPush hwin _
  · rw [winAt_succ_winPush he (by omega), hread e he (by omega), Nat.add_sub_add_right, hsame _ (by omega)]

/-! ### The decoder -/

theorem start_windowOk (s : State) : (start s).windowOk :=
  (windowOk_iff _).2 (windowTracks_of_empty rfl rfl _)

/-- `Put` with room for its byte appends and pushes the same byte (44_deflate_decoder.md R212). -/
theorem winPush_append_windowOk {s : State} (hmem : s.memoriesOk = true) (h : s.windowOk) (x : Byte) :
    (winPush x (append x s)).windowOk := by
  obtain ⟨-, hout, hwin, -, -⟩ := (memoriesOk_iff s).1 hmem
  have hpush := winPush_windowTracks (s := append x s) (bytes' := (s.outBuf.write s.outLen x).read) hwin
    ((windowOk_iff s).1 h) fun k hk => Memory.read_write_other x (Nat.ne_of_lt hk)
  rw [Memory.read_write_same hout] at hpush
  exact (windowOk_iff _).2 hpush

theorem put_windowOk {x : Byte} {s t : State} (hmem : s.memoriesOk = true) (h : s.windowOk) (hput : put x s = .ok t) :
    t.windowOk := by
  rcases put_cases x s with ⟨-, hp⟩ | ⟨-, hp⟩ <;> cases hp.symm.trans hput
  exact winPush_append_windowOk hmem h x

theorem DecoderMove.windowOk {s t : State} (h : DecoderMove s t) (hs : s.dataOk) (hw : s.windowOk) : t.windowOk := by
  cases h with
  | read | payload => exact hw
  | latch h => rw [h]; exact hw
  | put x => exact winPush_append_windowOk hs.1 hw x

theorem Decodes.windowOk {s t : State} (h : Decodes s t) (hs : s.dataOk) (hw : s.windowOk) : t.windowOk := by
  induction h with
  | refl => exact hw
  | tail hprev hmove ih => exact hmove.windowOk (Decodes.dataOk hprev hs) ih

/-- A trailer that matches leaves the output and the window as they were (45_zlib.md R247). -/
theorem execZlibAdler32_windowOk {sum : BitVec 32} {s t : State} (h : execZlibAdler32 sum s = .next t)
    (hok : t.ok = true) (hw : s.windowOk) : t.windowOk := by
  have hpass := adlerPass_frame s.output s
  generalize hsums : adlerPass s.output s = sums at hpass
  rcases execZlibAdler32_cases h with rfl | rfl
  · rw [hsums, hpass]; exact hw
  · exact absurd hok (by simp)

/-- A decoder that has not failed holds the last bytes of its output in the window. -/
theorem DecoderEnd.windowOk {z : Bool} {s t : State} (h : DecoderEnd z s t) (hs : s.dataOk) (hw : s.windowOk)
    (hgood : t.busy = true ∨ t.ok = true) : t.windowOk := by
  cases h with
  | running h => exact h.windowOk hs hw
  | succeeded h => exact h.windowOk hs hw
  | raised k => exact absurd hgood (by simp)
  | checked sum h _ ht =>
    obtain ⟨u, hu, hend⟩ := execZlibAdler32_next sum _
    cases ht.symm.trans hu
    exact execZlibAdler32_windowOk ht (hgood.resolve_left (by simp [hend])) (h.windowOk hs hw)

theorem step_inflating_windowOk {s t : State} (hs : s.inv = true) (hg : inflating s = true) (hw : s.windowOk)
    (h : step s = .next t) (hgood : t.busy = true ∨ t.ok = true) : t.windowOk := by
  rw [inflating_eq, Bool.and_eq_true] at hg
  obtain ⟨hb, hc⟩ := hg
  obtain ⟨-, hdata, -⟩ := (inv_iff s).1 hs
  obtain ⟨u, -, hu, hend, -⟩ := deflate_decoderEnd hc
  cases ((step_running hb).symm.trans h).symm.trans hu
  exact hend.windowOk hdata hw hgood

/-! ### The encoder -/

/-- `Advance` pushes the bytes of `IN` it covers (43_deflate_encoder.md R190). -/
theorem advance_windowTracks (n : Nat) {s : State} (hmem : s.memoriesOk = true)
    (h : s.windowTracks s.ipos s.inBuf.read) :
    (advance n s).windowTracks (advance n s).ipos (advance n s).inBuf.read ∧ (advance n s).ipos = s.ipos + n := by
  induction n generalizing s with
  | zero => exact ⟨h, rfl⟩
  | succ n ih =>
    obtain ⟨-, -, hwin, -, -⟩ := (memoriesOk_iff s).1 hmem
    obtain ⟨htracks, hipos⟩ := ih
      (s := { winPush (s.inBuf.read s.ipos) s with ipos := (winPush (s.inBuf.read s.ipos) s).ipos + 1 })
      (winPush_memoriesOk hmem _) (winPush_windowTracks (bytes' := s.inBuf.read) hwin h fun _ _ => rfl)
    refine ⟨htracks, hipos.trans ?_⟩
    simp only [winPush_ipos]
    omega

/-- Settles O27: a push moves every byte of the window one distance on and puts the new one at distance 1, and both the decoder
and the encoder push exactly the bytes they pass. -/
theorem windowHoldsTheLastBytes : Obligations.WindowHoldsTheLastBytes := by
  refine ⟨start_windowOk, fun _ _ _ hmem h hput => put_windowOk hmem h hput,
    fun _ _ hs hg hw h hgood => step_inflating_windowOk hs hg hw h hgood, ?_, fun n s hmem h => advance_windowTracks n hmem h⟩
  intro s hipos hptr hfill
  have hempty := windowTracks_of_empty hptr hfill s.inBuf.read
  rwa [← hipos] at hempty

end Sys2Proof.Machine
end

section
/-! PROOFS. What the host has given an engine, its command word, lengths and input, is read-only to it (10_state.md R21, R23, R25,
20_memory.md R61): one case for each move of the three kinds of commands. -/

namespace Sys2Proof

/-- The padding micro-phase (48_base64.md R288) is not an element's own context: its characters are those of any text. -/
theorem Instr.ctx_ne_printPad (i : Instr) (n : Nat) : i.ctx ≠ some (.printPad n) := by
  cases i <;> simp [Instr.ctx]

end Sys2Proof

namespace Sys2Proof.Machine

/-- `CMD`, `IN_LEN`, `MAXOUT` and the memory `IN`: what the host writes and the engine only reads. -/
def State.hostInputs (s : State) : BitVec 8 × Nat × Nat × Memory := (s.cmd, s.inLen, s.maxOut, s.inBuf)

theorem hostInputs_eq_iff (s t : State) :
    t.hostInputs = s.hostInputs ↔ t.cmd = s.cmd ∧ t.inLen = s.inLen ∧ t.maxOut = s.maxOut ∧ t.inBuf = s.inBuf := by
  simp [State.hostInputs]

theorem raise_hostInputs (k : ErrorKind) (s : State) : (raise k s).hostInputs = s.hostInputs := by
  rw [raise_frame]; rfl

/-! ### The decompressors -/

theorem DecoderMove.hostInputs {s t : State} (h : DecoderMove s t) : t.hostInputs = s.hostInputs := by
  cases h with
  | read | put | payload => rfl
  | latch h => rw [h]; rfl

theorem Decodes.hostInputs {s t : State} (h : Decodes s t) : t.hostInputs = s.hostInputs := by
  induction h with
  | refl => rfl
  | tail _ hmove ih => exact hmove.hostInputs.trans ih

theorem onlyReader.hostInputs {s t : State} (h : onlyReader s t) : t.hostInputs = s.hostInputs := by rw [h]; rfl

theorem execZlibAdler32_hostInputs {sum : BitVec 32} {s t : State} (h : execZlibAdler32 sum s = .next t) :
    t.hostInputs = s.hostInputs := by
  have hpass := adlerPass_frame s.output s
  generalize hsums : adlerPass s.output s = sums at hpass
  rcases execZlibAdler32_cases h with rfl | rfl <;> rw [hsums, hpass]
  · rfl
  · rw [raise_hostInputs]; rfl

theorem DecoderEnd.hostInputs {z : Bool} {s t : State} (h : DecoderEnd z s t) : t.hostInputs = s.hostInputs := by
  cases h with
  | running h => exact h.hostInputs
  | succeeded h => exact h.hostInputs
  | raised k _ h hv => rw [raise_hostInputs, hv.hostInputs, h.hostInputs]
  | checked sum h _ ht => exact (execZlibAdler32_hostInputs ht).trans h.hostInputs

/-! ### The text decoders -/

theorem lastGroup_hostInputs (g : BitVec 24) (n : Nat) (s : State) : (lastGroup g n s).hostInputs = s.hostInputs := by
  rw [lastGroup, appendAll_frame]; rfl

theorem endOfInput_hostInputs (s : State) : (endOfInput s).hostInputs = s.hostInputs := by
  rcases endOfInput_cases s with he | he | ⟨g, n, he⟩ <;> rw [he]
  · exact raise_hostInputs _ s
  · rfl
  · exact lastGroup_hostInputs g n s

theorem TextMove.hostInputs {s t : State} (h : TextMove s t) : t.hostInputs = s.hostInputs := by
  cases h with
  | append | pad | skip => rfl
  | shift k => rw [shiftIndex_frame]; rfl
  | refused k => exact raise_hostInputs k s

theorem streamStep_text_hostInputs {s t : State} (hc : s.micro.readsBytes = true) (h : streamStep s = .next t) :
    t.hostInputs = s.hostInputs := by
  rcases streamStep_text hc h with rfl | rfl | ⟨n, -, hmove⟩
  · exact endOfInput_hostInputs s
  · exact raise_hostInputs _ s
  · exact hmove.hostInputs

/-! ### A running command -/

theorem streamStep_hostInputs {s t : State} (h : streamStep s = .next t) : t.hostInputs = s.hostInputs := by
  rcases s.micro.reads_cases with hc | hc | hc
  · obtain ⟨u, -, hu, hend, -⟩ := deflate_decoderEnd hc
    cases h.symm.trans hu
    exact hend.hostInputs
  · exact streamStep_text_hostInputs hc h
  · exact (envelope_decoderEnd hc h).hostInputs

theorem runStream_hostInputs {n : Nat} {s t : State} (h : runStream n s = .next t) : t.hostInputs = s.hostInputs :=
  runWhile_keeps (P := fun u => u.hostInputs = s.hostInputs) (fun _ _ _ hu hv => (streamStep_hostInputs hv).trans hu) h rfl

/-- A stream element, in whatever state it is run. -/
theorem exec_element_hostInputs {i : Instr} {c : StreamCtx} (hi : i.ctx = some c) {s t : State} (h : exec i s = .next t) :
    t.hostInputs = s.hostInputs := by
  rcases c.reads_cases with hc | hc | hc
  · obtain ⟨u, -, hu, hmove⟩ := deflateElement_next hi hc s
    cases h.symm.trans hu
    exact hmove.decoderEnd.hostInputs
  · cases c with
    | escape => exact (exec_textMove (.inl hi) h).hostInputs
    | print => exact (exec_textMove (.inr hi) h).hostInputs
    | printPad n => exact absurd hi (i.ctx_ne_printPad n)
    | _ => cases hc
  · exact (exec_envelope_decoderEnd hi hc h).hostInputs

/-! ### The commands -/

theorem EncoderMove.hostInputs {s t : State} (h : EncoderMove s t) : t.hostInputs = s.hostInputs := by
  cases h with
  | writeBit bit => rw [onlyWriter_writeBit bit s]; rfl
  | flush => rw [onlyWriter_flush s]; rfl
  | registers h => rw [h]; rfl
  | append | push | emptyWindow | sum | clearSums => rfl

theorem Encodes.hostInputs {s t : State} (h : Encodes s t) : t.hostInputs = s.hostInputs := by
  induction h with
  | refl => rfl
  | tail _ hmove ih => exact hmove.hostInputs.trans ih

theorem exec_command_hostInputs {i : Instr} (hi : i.ctx = none) {s t : State} (h : exec i s = .next t) :
    t.hostInputs = s.hostInputs := by
  cases i with
  | compress level => obtain ⟨u, hu, he⟩ := execCompress_encodes level s; cases h.symm.trans he; exact hu.hostInputs
  | encodeChannel level => obtain ⟨u, hu, he⟩ := execEncodeChannel_encodes level s; cases h.symm.trans he; exact hu.hostInputs
  | encodePrint level => obtain ⟨u, hu, he⟩ := execEncodePrint_encodes level s; cases h.symm.trans he; exact hu.hostInputs
  | compressZlib level =>
    obtain ⟨u, v, hu, he⟩ := execCompressZlib_encodes level s; cases h.symm.trans he; exact hu.hostInputs
  | adler32 level => obtain ⟨u, v, hu, he⟩ := execAdler32_encodes level s; cases h.symm.trans he; exact hu.hostInputs
  | decompress => exact (execDecompress_decoderEnd h).hostInputs
  | decompressZlib => exact (execDecompressZlib_decoderEnd h).hostInputs
  | decodeChannel => exact runStream_hostInputs (s := { start s with micro := .escape }) h
  | decodePrint => exact runStream_hostInputs (s := { start s with micro := .print }) h
  | illegalOp0 | illegalOpAB | illegalOpCF | illegalLevel1011 | illegalLevel1215 =>
    cases h; exact raise_hostInputs _ (start s)
  | _ => cases hi

theorem exec_hostInputs {i : Instr} {s t : State} (h : exec i s = .next t) : t.hostInputs = s.hostInputs := by
  cases hi : i.ctx with
  | none => exact exec_command_hostInputs hi h
  | some c => exact exec_element_hostInputs hi h

theorem step_hostInputs {s t : State} (h : step s = .next t) : t.hostInputs = s.hostInputs := by
  cases hb : s.busy with
  | true => exact streamStep_hostInputs ((step_running hb).symm.trans h)
  | false => exact exec_hostInputs ((step_idle hb).symm.trans h)

/-- Settles O54: no move of a decoder, of a text decoder or of an encoder writes what the host has given, and every instruction
and every step is made of such moves, of START and of an end. -/
theorem theEngineNeverWritesItsInputs : Obligations.TheEngineNeverWritesItsInputs :=
  ⟨fun _ s t h => (hostInputs_eq_iff s t).1 (exec_hostInputs h), fun s t h => (hostInputs_eq_iff s t).1 (step_hostInputs h)⟩

end Sys2Proof.Machine
end

section
/-! PROOFS. Reading a field of bits and writing it out are inverse to each other (20_memory.md R66 to R68, 40_bitstream.md R136,
41_huffman_tables.md R159): numbers in either bit order, bytes, byte sequences and the big-endian word. -/

namespace Sys2Proof

/-! ### Numbers, least significant bit first -/

theorem takeLsb_lsbBits {n v : Nat} (hv : v < 2 ^ n) (rest : List Bool) : takeLsb n (lsbBits n v ++ rest) = some (v, rest) := by
  induction n generalizing v with
  | zero => cases Nat.lt_one_iff.1 hv; rfl
  | succ n ih =>
    have hv' : (v.testBit 0).toNat + 2 * (v / 2) = v := by rw [Nat.toNat_testBit]; omega
    rw [lsbBits, List.cons_append, takeLsb, ih (by omega), Option.map_some]
    exact congrArg (fun w => some (w, rest)) hv'

theorem eq_of_takeLsb {n v : Nat} {bs rest : List Bool} (h : takeLsb n bs = some (v, rest)) :
    v < 2 ^ n ∧ bs = lsbBits n v ++ rest := by
  induction n generalizing v bs with
  | zero => cases h; exact ⟨Nat.one_pos, rfl⟩
  | succ n ih =>
    cases bs with
    | nil => cases h
    | cons b bs =>
      simp only [takeLsb, Option.map_eq_some_iff, Prod.mk.injEq] at h
      obtain ⟨⟨w, _⟩, hw, rfl, rfl⟩ := h
      obtain ⟨hlt, rfl⟩ := ih hw
      rw [Nat.add_comm, ← Nat.bit_val]
      exact ⟨Nat.bit_lt_two_pow_succ_iff.2 hlt, by rw [lsbBits, Nat.testBit_bit_zero, Nat.bit_div_two]; rfl⟩

theorem length_lt_of_takeLsb_eq_none {n : Nat} {bs : List Bool} (h : takeLsb n bs = none) : bs.length < n := by
  induction n generalizing bs with
  | zero => cases h
  | succ n ih =>
    cases bs with
    | nil => exact Nat.succ_pos n
    | cons b bs => exact Nat.succ_lt_succ (ih (Option.map_eq_none_iff.1 h))

theorem lsbBits_append (m n v : Nat) : lsbBits (m + n) v = lsbBits m v ++ lsbBits n (v / 2 ^ m) := by
  induction m generalizing v with
  | zero => simp [lsbBits]
  | succ m ih => rw [Nat.succ_add, lsbBits, lsbBits, ih, Nat.div_div_eq_div_mul, Nat.pow_succ', List.cons_append]

/-- Only the low `n` bits count. -/
theorem lsbBits_mod (n v : Nat) : lsbBits n (v % 2 ^ n) = lsbBits n v := by
  induction n generalizing v with
  | zero => rfl
  | succ n ih =>
    rw [lsbBits, lsbBits, ← ih (v / 2), Nat.pow_succ', Nat.mod_mul_right_div_self, Nat.testBit_zero, Nat.testBit_zero,
      Nat.mod_mul_right_mod]

theorem lsbBits_toNat_ofNat (n v : Nat) : lsbBits n (BitVec.ofNat n v).toNat = lsbBits n v := lsbBits_mod n v

/-! ### Numbers, most significant bit first -/

/-- The last bit of a code is the lowest of its number. -/
theorem msbBits_succ (n v : Nat) : msbBits (n + 1) v = msbBits n (v / 2) ++ [v.testBit 0] := by
  induction n with
  | zero => rfl
  | succ n ih => rw [msbBits, ih, msbBits, Nat.testBit_succ, List.cons_append]

theorem takeMsb_msbBits (n v : Nat) (rest : List Bool) : takeMsb n (v / 2 ^ n) (msbBits n v ++ rest) = some (v, rest) := by
  induction n with
  | zero => rw [Nat.pow_zero, Nat.div_one]; rfl
  | succ n ih =>
    have hbit : 2 * (v / 2 ^ (n + 1)) + (v.testBit n).toNat = v / 2 ^ n := by
      rw [Nat.toNat_testBit, Nat.pow_succ, ← Nat.div_div_eq_div_mul]; omega
    rw [msbBits, List.cons_append, takeMsb, hbit, ih]

theorem eq_of_takeMsb {n acc v : Nat} {bs rest : List Bool} (h : takeMsb n acc bs = some (v, rest)) :
    v / 2 ^ n = acc ∧ bs = msbBits n v ++ rest := by
  induction n generalizing acc bs with
  | zero => cases h; exact ⟨Nat.div_one _, rfl⟩
  | succ n ih =>
    cases bs with
    | nil => cases h
    | cons b bs =>
      obtain ⟨hv, rfl⟩ := ih h
      rw [← Nat.bit_val] at hv
      have hbit : v.testBit n = b := by
        rw [← Nat.zero_add n, ← Nat.testBit_div_two_pow, hv, Nat.testBit_bit_zero]
      refine ⟨?_, by rw [msbBits, hbit]; rfl⟩
      rw [Nat.pow_succ, ← Nat.div_div_eq_div_mul, hv, Nat.bit_div_two]

/-! ### Bytes -/

theorem takeByte_byteBits (x : Byte) (rest : List Bool) : takeByte (byteBits x ++ rest) = some (x, rest) := by
  simp [takeByte, byteBits, takeLsb_lsbBits x.isLt]

theorem eq_of_takeByte {x : Byte} {bs rest : List Bool} (h : takeByte bs = some (x, rest)) : bs = byteBits x ++ rest := by
  simp only [takeByte, Option.map_eq_some_iff, Prod.mk.injEq] at h
  obtain ⟨⟨v, r⟩, hv, rfl, rfl⟩ := h
  rw [byteBits, lsbBits_toNat_ofNat]
  exact (eq_of_takeLsb hv).2

theorem length_lt_of_takeByte_eq_none {bs : List Bool} (h : takeByte bs = none) : bs.length < 8 :=
  length_lt_of_takeLsb_eq_none (Option.map_eq_none_iff.1 h)

theorem bytesBits_nil : bytesBits [] = [] := rfl

theorem bytesBits_cons (x : Byte) (xs : List Byte) : bytesBits (x :: xs) = byteBits x ++ bytesBits xs := List.flatMap_cons

theorem takeBytes_bytesBits (xs : List Byte) (rest : List Bool) : takeBytes xs.length (bytesBits xs ++ rest) = (xs, rest) := by
  induction xs with
  | nil => rfl
  | cons x xs ih =>
    rw [bytesBits_cons, List.append_assoc, List.length_cons, takeBytes, takeByte_byteBits]
    dsimp only
    rw [ih]

theorem bytesBits_takeBytes (n : Nat) (bs : List Bool) : bytesBits (takeBytes n bs).1 ++ (takeBytes n bs).2 = bs := by
  induction n generalizing bs with
  | zero => rfl
  | succ n ih =>
    rw [takeBytes]
    split
    · rfl
    next x rest hx => rw [eq_of_takeByte hx, bytesBits_cons, List.append_assoc, ih]

/-- `takeBytes` stops early only where no whole byte is left. -/
theorem takeBytes_count (n : Nat) (bs : List Bool) :
    (takeBytes n bs).1.length ≤ n ∧ ((takeBytes n bs).1.length < n → (takeBytes n bs).2.length < 8) := by
  induction n generalizing bs with
  | zero => exact ⟨Nat.le_refl _, fun h => absurd h (Nat.not_lt_zero _)⟩
  | succ n ih =>
    rw [takeBytes]
    split
    next hx => exact ⟨Nat.zero_le _, fun _ => length_lt_of_takeByte_eq_none hx⟩
    next x rest hx =>
      obtain ⟨hle, hshort⟩ := ih rest
      exact ⟨Nat.succ_le_succ hle, fun h => hshort (Nat.lt_of_succ_lt_succ h)⟩

/-! ### The big-endian word (45_zlib.md R243) -/

theorem be32_be32Inv (b0 b1 b2 b3 : Byte) : be32 (be32Inv b0 b1 b2 b3) = [b0, b1, b2, b3] := by
  have h0 : (b0 ++ b1 ++ b2 ++ b3).extractLsb' 24 8 = b0 := by
    rw [BitVec.extractLsb'_append_eq_of_le (by decide), BitVec.extractLsb'_append_eq_of_le (by decide)]
    exact BitVec.extractLsb'_append_eq_left
  have h1 : (b0 ++ b1 ++ b2 ++ b3).extractLsb' 16 8 = b1 := by
    rw [BitVec.extractLsb'_append_eq_of_le (by decide), BitVec.extractLsb'_append_eq_of_le (by decide)]
    exact BitVec.extractLsb'_append_eq_right
  have h2 : (b0 ++ b1 ++ b2 ++ b3).extractLsb' 8 8 = b2 := by
    rw [BitVec.extractLsb'_append_eq_of_le (by decide)]
    exact BitVec.extractLsb'_append_eq_right
  have h3 : (b0 ++ b1 ++ b2 ++ b3).extractLsb' 0 8 = b3 := BitVec.extractLsb'_append_eq_right
  simp only [be32, List.cons.injEq]
  exact ⟨h0, h1, h2, h3, trivial⟩

theorem be32Inv_be32 (v : BitVec 32) :
    be32Inv (v.extractLsb' 24 8) (v.extractLsb' 16 8) (v.extractLsb' 8 8) (v.extractLsb' 0 8) = v := by
  rw [be32Inv, BitVec.extractLsb'_append_extractLsb'_eq_extractLsb' (start₂ := 24) (start₁ := 16) rfl,
    BitVec.extractLsb'_append_extractLsb'_eq_extractLsb' (start₂ := 16) (start₁ := 8) rfl,
    BitVec.extractLsb'_append_extractLsb'_eq_extractLsb' (start₂ := 8) (start₁ := 0) rfl, BitVec.extractLsb'_eq_self]

end Sys2Proof
end

section
/-! PROOFS. The command word (30_encoding.md R90 to R93): the two nibbles it is made of, and that a word and the command it
names determine each other. -/

namespace Sys2Proof

@[simp] theorem cmdOp_append (level op : BitVec 4) : cmdOp (level ++ op) = op := BitVec.extractLsb'_append_eq_right

@[simp] theorem cmdLevel_append (level op : BitVec 4) : cmdLevel (level ++ op) = level := BitVec.extractLsb'_append_eq_left

/-- `CMD` is `level * 16 + op` (R90). -/
theorem commandBits_cmdOp_cmdLevel (w : BitVec 8) : commandBits (cmdOp w).toNat (cmdLevel w) = lsbBits 8 w.toNat := by
  rw [lsbBits_append 4 4, commandBits, cmdOp, cmdLevel, BitVec.extractLsb'_toNat, BitVec.extractLsb'_toNat, lsbBits_mod,
    lsbBits_mod, Nat.shiftRight_zero, Nat.shiftRight_eq_div_pow]

theorem encode_illegalLevel (zlib : BitVec 1) {level : BitVec 4} (h : ¬ level.toNat ≤ 9) :
    encode (illegalLevel zlib level) = commandBits (1 + 2 * zlib.toNat) level := by
  have := level.isLt
  unfold illegalLevel
  split
  · have hlow : 10 + level.toNat % 2 = level.toNat := by omega
    simp [encode, hlow]
  · have hlow : 12 + level.toNat % 4 = level.toNat := by omega
    simp [encode, hlow]

theorem illegalLevel_wf (zlib : BitVec 1) (level : BitVec 4) : (illegalLevel zlib level).wf = true := by
  unfold illegalLevel; split <;> rfl

/-- The word of a compress opcode: its level decides between the command and the two refused rows (R304). -/
theorem encode_compressOrIllegal (level : BitVec 4) :
    encode (if level.toNat ≤ 9 then .compress level else illegalLevel 0#1 level) = commandBits 1 level ∧
    encode (if level.toNat ≤ 9 then .compressZlib level else illegalLevel 1#1 level) = commandBits 3 level := by
  by_cases hl : level.toNat ≤ 9
  · rw [if_pos hl, if_pos hl]; exact ⟨rfl, rfl⟩
  · rw [if_neg hl, if_neg hl]; exact ⟨encode_illegalLevel 0#1 hl, encode_illegalLevel 1#1 hl⟩

theorem compressOrIllegal_wf (level : BitVec 4) :
    (if level.toNat ≤ 9 then Instr.compress level else illegalLevel 0#1 level).wf = true ∧
    (if level.toNat ≤ 9 then Instr.compressZlib level else illegalLevel 1#1 level).wf = true := by
  by_cases hl : level.toNat ≤ 9
  · rw [if_pos hl, if_pos hl]; exact ⟨decide_eq_true hl, decide_eq_true hl⟩
  · rw [if_neg hl, if_neg hl]; exact ⟨illegalLevel_wf _ _, illegalLevel_wf _ _⟩

theorem encode_decodeCommand (w : BitVec 8) : encode (decodeCommand w) = lsbBits 8 w.toNat := by
  rw [← commandBits_cmdOp_cmdLevel]
  unfold decodeCommand
  generalize cmdOp w = op, cmdLevel w = level
  obtain ⟨⟨op, hop⟩⟩ := op
  by_cases h1 : op = 1
  · subst h1; exact (encode_compressOrIllegal level).1
  by_cases h3 : op = 3
  · subst h3; exact (encode_compressOrIllegal level).2
  interval_cases op <;> simp [encode] at h1 h3 ⊢

theorem decodeCommand_wf (w : BitVec 8) : (decodeCommand w).wf = true := by
  unfold decodeCommand
  generalize cmdOp w = op, cmdLevel w = level
  obtain ⟨⟨op, hop⟩⟩ := op
  by_cases h1 : op = 1
  · subst h1; exact (compressOrIllegal_wf level).1
  by_cases h3 : op = 3
  · subst h3; exact (compressOrIllegal_wf level).2
  interval_cases op <;> simp [Instr.wf] at h1 h3 ⊢

/-- The round trip of a command whose bits are the word that names it. -/
theorem command_roundTrip {i : Instr} {op level : BitVec 4} (hbits : encode i = commandBits op.toNat level)
    (hdecode : decodeCommand (level ++ op) = i) :
    ∃ w, takeLsb 8 (encode i) = some (w, []) ∧ decodeCommand (BitVec.ofNat 8 w) = i := by
  have hword := commandBits_cmdOp_cmdLevel (level ++ op)
  rw [cmdOp_append, cmdLevel_append] at hword
  refine ⟨(level ++ op).toNat, ?_, by rw [BitVec.ofNat_toNat, BitVec.setWidth_eq, hdecode]⟩
  rw [hbits, hword, ← List.append_nil (lsbBits _ _)]
  exact takeLsb_lsbBits (level ++ op).isLt []

theorem decodeCommand_encode {i : Instr} (hwf : i.wf = true) (hi : i.ctx = none) :
    ∃ w, takeLsb 8 (encode i) = some (w, []) ∧ decodeCommand (BitVec.ofNat 8 w) = i := by
  cases i with
  | illegalOp0 => exact command_roundTrip (op := 0#4) rfl (by simp [decodeCommand])
  | compress level =>
    have hl : level.toNat ≤ 9 := of_decide_eq_true hwf
    exact command_roundTrip (op := 1#4) rfl (by simp [decodeCommand, hl])
  | decompress => exact command_roundTrip (op := 2#4) rfl (by simp [decodeCommand])
  | compressZlib level =>
    have hl : level.toNat ≤ 9 := of_decide_eq_true hwf
    exact command_roundTrip (op := 3#4) rfl (by simp [decodeCommand, hl])
  | decompressZlib => exact command_roundTrip (op := 4#4) rfl (by simp [decodeCommand])
  | encodeChannel => exact command_roundTrip (op := 5#4) rfl (by simp [decodeCommand])
  | decodeChannel => exact command_roundTrip (op := 6#4) rfl (by simp [decodeCommand])
  | encodePrint => exact command_roundTrip (op := 7#4) rfl (by simp [decodeCommand])
  | decodePrint => exact command_roundTrip (op := 8#4) rfl (by simp [decodeCommand])
  | adler32 => exact command_roundTrip (op := 9#4) rfl (by simp [decodeCommand])
  | illegalOpAB low level =>
    have hop : (BitVec.ofNat 4 (10 + low.toNat)).toNat = 10 + low.toNat := by simp; omega
    exact command_roundTrip (by rw [hop]; rfl) (by revert low level; decide)
  | illegalOpCF low level =>
    have hop : (BitVec.ofNat 4 (12 + low.toNat)).toNat = 12 + low.toNat := by simp; omega
    exact command_roundTrip (by rw [hop]; rfl) (by revert low level; decide)
  | illegalLevel1011 zlib low =>
    have hop : (BitVec.ofNat 4 (1 + 2 * zlib.toNat)).toNat = 1 + 2 * zlib.toNat := by simp; omega
    exact command_roundTrip (by rw [hop]; rfl) (by revert zlib low; decide)
  | illegalLevel1215 zlib low =>
    have hop : (BitVec.ofNat 4 (1 + 2 * zlib.toNat)).toNat = 1 + 2 * zlib.toNat := by simp; omega
    exact command_roundTrip (by rw [hop]; rfl) (by revert zlib low; decide)
  | _ => cases hi

end Sys2Proof
end

section
/-! PROOFS. The literal/length code (30_encoding.md R102, R106, 41_huffman_tables.md R152, R158): the bit-by-bit walk reads
exactly the codes, each of them, and always ends within nine bits. -/

namespace Sys2Proof

/-- The `len` bits with value `code` are not a code yet, nor do they begin with one: the walk goes on. -/
def LitLenPending (len code : Nat) : Prop :=
  code < 2 ^ len ∧ (len < 7 ∨ len = 7 ∧ 0x18 ≤ code ∨ len = 8 ∧ 0xC8 ≤ code)

theorem litLenPending_zero : LitLenPending 0 0 := ⟨Nat.one_pos, .inl (by decide)⟩

theorem LitLenPending.len_le {len code : Nat} (h : LitLenPending len code) : len ≤ 8 := by
  obtain ⟨-, h | h | h⟩ := h <;> omega

/-- Without its last bit a pending sequence is pending. -/
theorem LitLenPending.half {len code : Nat} (h : LitLenPending (len + 1) code) : LitLenPending len (code / 2) := by
  obtain ⟨hlt, h⟩ := h
  exact ⟨by omega, by omega⟩

theorem LitLenPending.litLenAt_eq_none {len code : Nat} (h : LitLenPending len code) : Rom.litLenAt len code = none := by
  obtain ⟨hlt, h⟩ := h
  rw [Rom.litLenAt, if_neg (by omega), if_neg (by omega), if_neg (by omega), if_neg (by omega)]

theorem LitLenPending.next {len code : Nat} (h : LitLenPending len (code / 2)) (hnone : Rom.litLenAt (len + 1) code = none) :
    LitLenPending (len + 1) code := by
  obtain ⟨hlt, h⟩ := h
  refine ⟨by omega, ?_⟩
  unfold Rom.litLenAt at hnone
  split_ifs at hnone
  omega

/-! ### The four rows of R152 -/

theorem litLenCode_lowLiteral {sym : Nat} (h : sym ≤ 143) : Rom.litLenCode sym = (0x30 + sym, 8) := by
  rw [Rom.litLenCode, if_pos h]

theorem litLenCode_highLiteral {sym : Nat} (h : 144 ≤ sym) (h' : sym ≤ 255) :
    Rom.litLenCode sym = (0x190 + (sym - 144), 9) := by
  rw [Rom.litLenCode, if_neg (by omega), if_pos h']

theorem litLenCode_lowLength {sym : Nat} (h : 256 ≤ sym) (h' : sym ≤ 279) : Rom.litLenCode sym = (sym - 256, 7) := by
  rw [Rom.litLenCode, if_neg (by omega), if_neg (by omega), if_pos h']

theorem litLenCode_highLength {sym : Nat} (h : 280 ≤ sym) : Rom.litLenCode sym = (0xC0 + (sym - 280), 8) := by
  rw [Rom.litLenCode, if_neg (by omega), if_neg (by omega), if_neg (by omega)]

/-- Where the walk stops it has read a code of R152. -/
theorem LitLenPending.code_eq {len code sym : Nat} (h : LitLenPending len (code / 2))
    (hsome : Rom.litLenAt (len + 1) code = some sym) : sym ≤ 287 ∧ Rom.litLenCode sym = (code, len + 1) := by
  obtain ⟨hlt, h⟩ := h
  unfold Rom.litLenAt at hsome
  split_ifs at hsome with h7 h8 h8' h9 <;> obtain rfl := Option.some.inj hsome
  · obtain rfl : len = 6 := by omega
    rw [litLenCode_lowLength (by omega) (by omega), Prod.mk.injEq]; omega
  · obtain rfl : len = 7 := by omega
    rw [litLenCode_lowLiteral (by omega), Prod.mk.injEq]; omega
  · obtain rfl : len = 7 := by omega
    rw [litLenCode_highLength (by omega), Prod.mk.injEq]; omega
  · obtain rfl : len = 8 := by omega
    rw [litLenCode_highLiteral (by omega) (by omega), Prod.mk.injEq]; omega

/-- The walk stops at every code of R152, and not before. -/
theorem litLenCode_pending {sym : Nat} (hsym : sym ≤ 287) : ∃ len code, Rom.litLenCode sym = (code, len + 1) ∧
    LitLenPending len (code / 2) ∧ Rom.litLenAt (len + 1) code = some sym := by
  have hrows : sym ≤ 143 ∨ 144 ≤ sym ∧ sym ≤ 255 ∨ 256 ≤ sym ∧ sym ≤ 279 ∨ 280 ≤ sym := by omega
  rcases hrows with h | ⟨h, h'⟩ | ⟨h, h'⟩ | h
  · refine ⟨7, _, litLenCode_lowLiteral h, ⟨by omega, by omega⟩, ?_⟩
    rw [Rom.litLenAt, if_neg (by omega), if_pos (by omega), Nat.add_sub_cancel_left]
  · refine ⟨8, _, litLenCode_highLiteral h h', ⟨by omega, by omega⟩, ?_⟩
    rw [Rom.litLenAt, if_neg (by omega), if_neg (by omega), if_neg (by omega), if_pos rfl, Nat.add_sub_cancel_left,
      Nat.add_sub_cancel' h]
  · refine ⟨6, _, litLenCode_lowLength h h', ⟨by omega, by omega⟩, ?_⟩
    rw [Rom.litLenAt, if_pos (by omega), Nat.add_sub_cancel' h]
  · refine ⟨7, _, litLenCode_highLength h, ⟨by omega, by omega⟩, ?_⟩
    rw [Rom.litLenAt, if_neg (by omega), if_neg (by omega), if_pos (by omega), Nat.add_sub_cancel_left, Nat.add_sub_cancel' h]

theorem length_litLenBits_le (sym : Nat) : (litLenBits sym).length ≤ 9 := by
  rw [litLenBits, Machine.length_msbBits, Rom.litLenCode]
  split_ifs <;> simp

/-! ### The walk -/

theorem bit_testBit_zero_div_two (n : Nat) : Nat.bit (n.testBit 0) (n / 2) = n := by
  rw [← Nat.shiftRight_one, Nat.bit_testBit_zero_shiftRight_one]

theorem decodeLitLenFrom_code {len code sym : Nat} (h : Rom.litLenAt (len + 1) code = some sym) (fuel : Nat) (bs : List Bool) :
    decodeLitLenFrom (fuel + 1) len (code / 2) (code.testBit 0 :: bs) = some (sym, bs) := by
  rw [decodeLitLenFrom, ← Nat.bit_val, bit_testBit_zero_div_two, h]

theorem decodeLitLenFrom_noCode {len code : Nat} (h : Rom.litLenAt (len + 1) code = none) (fuel : Nat) (bs : List Bool) :
    decodeLitLenFrom (fuel + 1) len (code / 2) (code.testBit 0 :: bs) = decodeLitLenFrom fuel (len + 1) code bs := by
  rw [decodeLitLenFrom, ← Nat.bit_val, bit_testBit_zero_div_two, h]

theorem decodeLitLenFrom_sound {fuel len code sym : Nat} {bs rest : List Bool} (hp : LitLenPending len code)
    (h : decodeLitLenFrom fuel len code bs = some (sym, rest)) :
    sym ≤ 287 ∧ msbBits len code ++ bs = litLenBits sym ++ rest := by
  induction fuel generalizing len code bs with
  | zero => cases h
  | succ fuel ih =>
    cases bs with
    | nil => cases h
    | cons b bs =>
      rw [decodeLitLenFrom, ← Nat.bit_val] at h
      have hread : msbBits len code ++ b :: bs = msbBits (len + 1) (Nat.bit b code) ++ bs := by
        rw [msbBits_succ, Nat.bit_div_two, Nat.testBit_bit_zero, List.append_assoc]; rfl
      have hp' : LitLenPending len (Nat.bit b code / 2) := by rwa [Nat.bit_div_two]
      rw [hread]
      split at h
      next s hs =>
        cases h
        obtain ⟨hle, hcode⟩ := hp'.code_eq hs
        exact ⟨hle, by rw [litLenBits, hcode]⟩
      next hs => exact ih (hp'.next hs) h

theorem decodeLitLenFrom_total {fuel len code : Nat} {bs : List Bool} (hp : LitLenPending len code) (hfuel : 9 ≤ len + fuel)
    (hbits : 9 ≤ len + bs.length) : ∃ sym rest, decodeLitLenFrom fuel len code bs = some (sym, rest) := by
  have hlen := hp.len_le
  induction fuel generalizing len code bs with
  | zero => omega
  | succ fuel ih =>
    cases bs with
    | nil => rw [List.length_nil] at hbits; omega
    | cons b bs =>
      rw [decodeLitLenFrom, ← Nat.bit_val]
      split
      · exact ⟨_, _, rfl⟩
      next hs =>
        have hp' : LitLenPending (len + 1) (Nat.bit b code) := .next (by rwa [Nat.bit_div_two]) hs
        rw [List.length_cons] at hbits
        exact ih hp' (by omega) (by omega) hp'.len_le

/-- The walk reads past a pending sequence. -/
theorem decodeLitLenFrom_pending {len code : Nat} (hp : LitLenPending len code) (fuel : Nat) (bs : List Bool) :
    decodeLitLenFrom (fuel + len) 0 0 (msbBits len code ++ bs) = decodeLitLenFrom fuel len code bs := by
  induction len generalizing code fuel bs with
  | zero => cases Nat.lt_one_iff.1 hp.1; rfl
  | succ len ih =>
    rw [msbBits_succ, List.append_assoc, List.singleton_append, ← Nat.add_assoc, Nat.add_right_comm, ih hp.half,
      decodeLitLenFrom_noCode hp.litLenAt_eq_none]

/-- Reading a code gives its symbol, whatever follows. -/
theorem decodeLitLen_litLenBits {sym : Nat} (h : sym ≤ 287) (rest : List Bool) :
    decodeLitLen (litLenBits sym ++ rest) = some (sym, rest) := by
  obtain ⟨len, code, hcode, hp, hat⟩ := litLenCode_pending h
  obtain ⟨fuel, hfuel⟩ : ∃ fuel, 9 = fuel + 1 + len := ⟨8 - len, by have := hp.len_le; omega⟩
  rw [decodeLitLen, litLenBits, hcode, hfuel, msbBits_succ, List.append_assoc, decodeLitLenFrom_pending hp,
    List.singleton_append, decodeLitLenFrom_code hat]

theorem eq_of_decodeLitLen {sym : Nat} {bs rest : List Bool} (h : decodeLitLen bs = some (sym, rest)) :
    sym ≤ 287 ∧ bs = litLenBits sym ++ rest :=
  decodeLitLenFrom_sound litLenPending_zero h

/-- Settles O11: the walk finds one symbol for the bits of a code, whatever follows, so no code begins another; and from nine
bits it always finds one. -/
theorem litLenCodesAreUnambiguous : Obligations.LitLenCodesAreUnambiguous := by
  refine ⟨fun s s' hs hs' hne => ?_, fun bits hbits => ?_⟩
  · rintro ⟨tail, htail⟩
    have hread := decodeLitLen_litLenBits hs' []
    rw [List.append_nil, ← htail, decodeLitLen_litLenBits hs] at hread
    cases hread
    exact hne rfl
  · obtain ⟨sym, rest, h⟩ :=
      decodeLitLenFrom_total (fuel := 9) (bs := bits) litLenPending_zero (Nat.le_refl 9) (by omega)
    obtain ⟨hsym, hcode⟩ := eq_of_decodeLitLen h
    exact ⟨sym, rest, h, hsym, hcode, length_litLenBits_le sym⟩

end Sys2Proof
end

section
/-! PROOFS. The stream elements (30_encoding.md R96 to R115), one stream after the other: an element's bits decode to it
whatever follows, and bits that decode to an element are its own. -/

namespace Sys2Proof

/-! ### Block headers and stored bodies -/

theorem decodeBlockHeader_encode {i : Instr} (hi : i.ctx = some .blockHeader) (rest : List Bool) :
    decodeBlockHeader (encode i ++ rest) = .ok (i, rest) := by
  cases i with
  | blockStored f | blockFixed f | blockDynamic f | blockReserved f =>
    simp [encode, decodeBlockHeader, takeLsb_lsbBits f.isLt, takeLsb_lsbBits]
  | _ => cases hi

theorem eq_of_decodeBlockHeader {bs rest : List Bool} {i : Instr} (h : decodeBlockHeader bs = .ok (i, rest)) :
    bs = encode i ++ rest ∧ i.wf = true := by
  unfold decodeBlockHeader at h
  split at h
  · cases h
  next f r hf =>
    split at h
    · cases h
    next t r' ht =>
      obtain ⟨-, rfl⟩ := eq_of_takeLsb hf
      obtain ⟨ht, rfl⟩ := eq_of_takeLsb ht
      cases h
      interval_cases t <;> exact ⟨by simpa [encode] using (lsbBits_mod 1 f).symm, rfl⟩

theorem decodeStoredBody_encode {pos : Nat} {pad : List Bool} {len nlen : BitVec 16} {data : List Byte}
    (hpad : pad.length = padBits pos) (hdata : data.length = len.toNat) (rest : List Bool) :
    decodeStoredBody pos (encode (.storedBody pad len nlen data) ++ rest) = .ok (.storedBody pad len nlen data, rest) := by
  have htake := takeBytes_bytesBits data rest
  rw [hdata] at htake
  simp [decodeStoredBody, encode, ← hpad, takeLsb_lsbBits len.isLt, takeLsb_lsbBits nlen.isLt, htake]

theorem eq_of_decodeStoredBody {pos : Nat} {bs rest : List Bool} {i : Instr} (h : decodeStoredBody pos bs = .ok (i, rest)) :
    bs = encode i ++ rest ∧ ∃ pad len nlen data, i = .storedBody pad len nlen data ∧
      pad.length = padBits pos ∧ data.length ≤ len.toNat ∧ (data.length < len.toNat → rest.length < 8) := by
  unfold decodeStoredBody at h
  dsimp only at h
  split at h
  · cases h
  next len r hlen =>
    split at h
    · cases h
    next nlen r' hnlen =>
      have hlong := takeLsb_length hlen
      obtain ⟨hlt, hdrop⟩ := eq_of_takeLsb hlen
      obtain ⟨-, rfl⟩ := eq_of_takeLsb hnlen
      obtain ⟨hcount, hshort⟩ := takeBytes_count len r'
      have hlen' : (BitVec.ofNat 16 len).toNat = len := Nat.mod_eq_of_lt hlt
      cases h
      refine ⟨?_, _, _, _, _, rfl, ?_, by rwa [hlen'], by rwa [hlen']⟩
      · simp only [encode, List.append_assoc, lsbBits_toNat_ofNat, bytesBits_takeBytes, ← hdrop, List.take_append_drop]
      · rw [List.length_drop] at hlong
        rw [List.length_take]; omega

/-! ### Literals, lengths and distances -/

theorem encode_lengthInstr {k : Nat} (hk : k ≤ 28) (e : Nat) :
    encode (lengthInstr k e) = litLenBits (k + 257) ++ lsbBits (Rom.lenExtra k) e := by
  interval_cases k <;> simp only [lengthInstr, encode, lsbBits_toNat_ofNat] <;> rfl

theorem encode_distanceInstr {j : Nat} (hj : j ≤ 31) (e : Nat) :
    encode (distanceInstr j e) = msbBits 5 j ++ lsbBits (Rom.distExtra j) e := by
  interval_cases j <;> simp only [distanceInstr, encode, lsbBits_toNat_ofNat] <;> rfl

theorem lengthInstr_wf (k e : Nat) : (lengthInstr k e).wf = true := by
  unfold lengthInstr; split <;> rfl

theorem distanceInstr_wf (j e : Nat) : (distanceInstr j e).wf = true := by
  unfold distanceInstr; split <;> rfl

/-- A length is the code of its symbol and the extra bits R156 gives it. -/
theorem decodeLitLenElement_length {k n : Nat} {e : BitVec n} {i : Instr} (hk : k ≤ 28) (hn : Rom.lenExtra k = n)
    (hi : lengthInstr k e.toNat = i) (rest : List Bool) :
    decodeLitLenElement (litLenBits (k + 257) ++ lsbBits n e.toNat ++ rest) = .ok (i, rest) := by
  rw [decodeLitLenElement, List.append_assoc, decodeLitLen_litLenBits (by omega)]
  dsimp only
  rw [if_neg (by omega), if_neg (by omega), if_neg (by omega), if_pos (by omega), Nat.add_sub_cancel, hn,
    takeLsb_lsbBits e.isLt, ← hi]

theorem decodeLitLenElement_length_noExtra {k : Nat} (hk : k ≤ 28) (hn : Rom.lenExtra k = 0) (rest : List Bool) :
    decodeLitLenElement (litLenBits (k + 257) ++ rest) = .ok (lengthInstr k 0, rest) := by
  simpa [lsbBits] using decodeLitLenElement_length (e := 0#0) hk hn rfl rest

theorem decodeLitLenElement_encode {i : Instr} (hi : i.ctx = some .litLen) (hwf : i.wf = true) (rest : List Bool) :
    decodeLitLenElement (encode i ++ rest) = .ok (i, rest) := by
  cases i with
  | literal0To143 x =>
    have hx : x.toNat ≤ 143 := of_decide_eq_true hwf
    rw [encode, decodeLitLenElement, decodeLitLen_litLenBits (by omega)]
    simp [hx]
  | literal144To255 x =>
    have hx : 144 ≤ x.toNat := of_decide_eq_true hwf
    have hx' : x.toNat ≤ 255 := Nat.le_of_lt_succ x.isLt
    rw [encode, decodeLitLenElement, decodeLitLen_litLenBits (by omega)]
    simp [hx', Nat.not_le.2 hx]
  | eob | litlenReserved286 | litlenReserved287 => simp [encode, decodeLitLenElement, decodeLitLen_litLenBits]
  | length257 | length258 | length259 | length260 | length261 | length262 | length263 | length264 | length285 =>
    exact decodeLitLenElement_length_noExtra (by decide) rfl rest
  | length265 e | length266 e | length267 e | length268 e | length269 e | length270 e | length271 e | length272 e
  | length273 e | length274 e | length275 e | length276 e | length277 e | length278 e | length279 e | length280 e
  | length281 e | length282 e | length283 e | length284 e =>
    exact decodeLitLenElement_length (by decide) (by decide) (by simp [lengthInstr]) rest
  | _ => cases hi

/-- A distance is its five-bit pattern and the extra bits R157 gives it. -/
theorem decodeDistanceElement_code {j n : Nat} {e : BitVec n} {i : Instr} (hj : j ≤ 31) (hn : Rom.distExtra j = n)
    (hi : distanceInstr j e.toNat = i) (rest : List Bool) :
    decodeDistanceElement (msbBits 5 j ++ lsbBits n e.toNat ++ rest) = .ok (i, rest) := by
  have hj' : j / 2 ^ 5 = 0 := by omega
  rw [decodeDistanceElement, List.append_assoc, ← hj', takeMsb_msbBits]
  dsimp only
  rw [hn, takeLsb_lsbBits e.isLt, ← hi]

theorem decodeDistanceElement_noExtra {j : Nat} (hj : j ≤ 31) (hn : Rom.distExtra j = 0) (rest : List Bool) :
    decodeDistanceElement (msbBits 5 j ++ rest) = .ok (distanceInstr j 0, rest) := by
  simpa [lsbBits] using decodeDistanceElement_code (e := 0#0) hj hn rfl rest

theorem decodeDistanceElement_encode {i : Instr} (hi : i.ctx = some .distance) (rest : List Bool) :
    decodeDistanceElement (encode i ++ rest) = .ok (i, rest) := by
  cases i with
  | distance0 | distance1 | distance2 | distance3 | distanceReserved30 | distanceReserved31 =>
    exact decodeDistanceElement_noExtra (by decide) rfl rest
  | distance4 e | distance5 e | distance6 e | distance7 e | distance8 e | distance9 e | distance10 e | distance11 e
  | distance12 e | distance13 e | distance14 e | distance15 e | distance16 e | distance17 e | distance18 e | distance19 e
  | distance20 e | distance21 e | distance22 e | distance23 e | distance24 e | distance25 e | distance26 e | distance27 e
  | distance28 e | distance29 e =>
    exact decodeDistanceElement_code (by decide) (by decide) (by simp [distanceInstr]) rest
  | _ => cases hi

theorem eq_of_decodeLitLenElement {bs rest : List Bool} {i : Instr} (h : decodeLitLenElement bs = .ok (i, rest)) :
    bs = encode i ++ rest ∧ i.wf = true := by
  unfold decodeLitLenElement at h
  split at h
  · cases h
  next sym r hsym =>
    obtain ⟨hle, rfl⟩ := eq_of_decodeLitLen hsym
    split_ifs at h with h143 h255 h256 h285 h286
    · have hnat : (BitVec.ofNat 8 sym).toNat = sym := Nat.mod_eq_of_lt (by omega)
      cases h
      exact ⟨by rw [encode, hnat], decide_eq_true (by rwa [hnat])⟩
    · have hnat : (BitVec.ofNat 8 sym).toNat = sym := Nat.mod_eq_of_lt (by omega)
      cases h
      exact ⟨by rw [encode, hnat], decide_eq_true (by rw [hnat]; omega)⟩
    · cases h; exact ⟨by rw [h256, encode], rfl⟩
    · split at h
      · cases h
      next e r' he =>
        obtain ⟨-, hr⟩ := eq_of_takeLsb he
        rw [Except.ok.injEq, Prod.mk.injEq] at h
        obtain ⟨rfl, rfl⟩ := h
        have hsymbol : sym - 257 + 257 = sym := by omega
        refine ⟨?_, lengthInstr_wf _ _⟩
        rw [encode_lengthInstr (by omega), hsymbol, List.append_assoc, ← hr]
    · cases h; exact ⟨by rw [h286, encode], rfl⟩
    · have h287 : sym = 287 := by omega
      cases h; exact ⟨by rw [h287, encode], rfl⟩

theorem eq_of_decodeDistanceElement {bs rest : List Bool} {i : Instr} (h : decodeDistanceElement bs = .ok (i, rest)) :
    bs = encode i ++ rest ∧ i.wf = true := by
  unfold decodeDistanceElement at h
  split at h
  · cases h
  next j r hj =>
    split at h
    · cases h
    next e r' he =>
      obtain ⟨hlt, rfl⟩ := eq_of_takeMsb hj
      obtain ⟨-, rfl⟩ := eq_of_takeLsb he
      cases h
      exact ⟨by rw [encode_distanceInstr (by omega), List.append_assoc], distanceInstr_wf j e⟩

/-! ### The zlib envelope -/

theorem decodeZlibByte_byteBits (mk : Byte → Instr) (x : Byte) (rest : List Bool) :
    decodeZlibByte mk (byteBits x ++ rest) = .ok (mk x, rest) := by
  rw [decodeZlibByte, takeByte_byteBits]

theorem eq_of_decodeZlibByte {mk : Byte → Instr} {bs rest : List Bool} {i : Instr}
    (h : decodeZlibByte mk bs = .ok (i, rest)) : ∃ x, i = mk x ∧ bs = byteBits x ++ rest := by
  unfold decodeZlibByte at h
  split at h
  · cases h
  next x r hx => cases h; exact ⟨x, rfl, eq_of_takeByte hx⟩

theorem decodeTrailer_encode (sum : BitVec 32) (rest : List Bool) :
    decodeTrailer (encode (.zlibAdler32 sum) ++ rest) = .ok (.zlibAdler32 sum, rest) := by
  have htake : takeBytes 4 (bytesBits (be32 sum) ++ rest) = (be32 sum, rest) := takeBytes_bytesBits (be32 sum) rest
  rw [decodeTrailer, encode, htake, be32]
  dsimp only
  rw [be32Inv_be32]

theorem eq_of_decodeTrailer {bs rest : List Bool} {i : Instr} (h : decodeTrailer bs = .ok (i, rest)) :
    bs = encode i ++ rest ∧ i.wf = true := by
  unfold decodeTrailer at h
  split at h
  next b0 b1 b2 b3 r hb =>
    cases h
    have hbits := bytesBits_takeBytes 4 bs
    rw [hb] at hbits
    exact ⟨by rw [encode, be32_be32Inv, hbits], rfl⟩
  · cases h

/-! ### The channel-safe form -/

theorem decodeEscape_plain {x : Byte} (hx : x ≠ 0x01#8) (rest : List Bool) :
    decodeEscape (byteBits x ++ rest) = .ok (.escPlain x, rest) := by
  rw [decodeEscape, takeByte_byteBits]
  exact if_pos hx

theorem decodeEscape_encode {i : Instr} (hi : i.ctx = some .escape) (hwf : i.wf = true) {rest : List Bool}
    (hend : i = .escInvalid none → rest = []) : decodeEscape (encode i ++ rest) = .ok (i, rest) := by
  cases i with
  | escPlain x => exact decodeEscape_plain (of_decide_eq_true hwf) rest
  | esc00 | esc01 | escFF =>
    simp [encode, decodeEscape, bytesBits_cons, bytesBits_nil, takeByte_byteBits]
  | escInvalid follower =>
    cases follower with
    | none =>
      cases hend rfl
      rfl
    | some f =>
      simp only [Instr.wf, decide_eq_true_eq, ne_eq, Option.some.injEq] at hwf
      simp [encode, decodeEscape, bytesBits_cons, bytesBits_nil, takeByte_byteBits, hwf]
  | _ => cases hi

theorem eq_of_decodeEscape {bs rest : List Bool} {i : Instr} (h : decodeEscape bs = .ok (i, rest)) :
    bs = encode i ++ rest ∧ i.wf = true := by
  unfold decodeEscape at h
  split at h
  · split at h <;> cases h
  next x r hx =>
    obtain rfl := eq_of_takeByte hx
    split at h
    next hne => cases h; exact ⟨rfl, decide_eq_true hne⟩
    next heq =>
      obtain rfl : x = 0x01#8 := not_not.1 heq
      split at h
      · cases h; exact ⟨rfl, rfl⟩
      next f r' hf =>
        have hpair : byteBits 0x01#8 ++ r = bytesBits [0x01#8, f] ++ r' := by
          rw [eq_of_takeByte hf, bytesBits_cons, bytesBits_cons, bytesBits_nil, List.append_nil, List.append_assoc]
        dsimp only at h
        rw [hpair]
        split_ifs at h with h1 h2 h3 <;> cases h
        · exact ⟨by rw [h1, encode], rfl⟩
        · exact ⟨by rw [h2, encode], rfl⟩
        · exact ⟨by rw [h3, encode], rfl⟩
        · exact ⟨rfl, by simp [Instr.wf, h1, h2, h3]⟩

/-! ### The print-safe form -/

theorem encode_printInstr (c : Byte) : encode (printInstr c) = byteBits c := by
  unfold printInstr
  split_ifs with hupper hlower hdigit hplus hslash hpad hws
  · rfl
  · rfl
  · rfl
  · rw [hplus, encode]
  · rw [hslash, encode]
  · rw [hpad, encode]
  · rfl
  · rfl

theorem printInstr_wf (c : Byte) : (printInstr c).wf = true := by
  unfold printInstr
  split_ifs with hupper hlower hdigit hplus hslash hpad hws
  · exact decide_eq_true hupper
  · exact decide_eq_true hlower
  · exact decide_eq_true hdigit
  · rfl
  · rfl
  · rfl
  · exact decide_eq_true hws
  · have hinv : Rom.b64Inv c = none := by
      rw [Rom.b64Inv, if_neg hupper, if_neg hlower, if_neg hdigit, if_neg hplus, if_neg hslash]
    exact decide_eq_true ⟨hinv, hpad, hws⟩

/-- Outside the alphabet no class of it applies. -/
theorem printInstr_of_b64Inv_eq_none {c : Byte} (h : Rom.b64Inv c = none) :
    printInstr c = if c = Rom.b64PadChar then .b64Pad else if c ∈ Rom.b64Ws then .b64Ws c else .b64Invalid c := by
  unfold Rom.b64Inv at h
  split_ifs at h with hupper hlower hdigit hplus hslash
  rw [printInstr, if_neg hupper, if_neg hlower, if_neg hdigit, if_neg hplus, if_neg hslash]

theorem printInstr_of_encode {i : Instr} (hi : i.ctx = some .print) (hwf : i.wf = true) :
    ∃ c, encode i = byteBits c ∧ printInstr c = i := by
  cases i with
  | b64Upper c => exact ⟨c, rfl, if_pos (of_decide_eq_true hwf)⟩
  | b64Lower c =>
    have hc := of_decide_eq_true hwf
    exact ⟨c, rfl, by rw [printInstr, if_neg (by omega), if_pos hc]⟩
  | b64Digit c =>
    have hc := of_decide_eq_true hwf
    exact ⟨c, rfl, by rw [printInstr, if_neg (by omega), if_neg (by omega), if_pos hc]⟩
  | b64Plus | b64Slash | b64Pad => exact ⟨_, rfl, by decide⟩
  | b64Ws c =>
    have hall : ∀ x ∈ Rom.b64Ws, printInstr x = .b64Ws x := by decide
    exact ⟨c, rfl, hall c (of_decide_eq_true hwf)⟩
  | b64Invalid c =>
    obtain ⟨hinv, hpad, hws⟩ := of_decide_eq_true hwf
    exact ⟨c, rfl, by rw [printInstr_of_b64Inv_eq_none hinv, if_neg hpad, if_neg hws]⟩
  | _ => cases hi

theorem decodePrintChar_encode {i : Instr} (hi : i.ctx = some .print) (hwf : i.wf = true) (rest : List Bool) :
    decodePrintChar (encode i ++ rest) = .ok (i, rest) := by
  obtain ⟨c, hbits, hclass⟩ := printInstr_of_encode hi hwf
  rw [decodePrintChar, hbits, takeByte_byteBits, ← hclass]

theorem eq_of_decodePrintChar {bs rest : List Bool} {i : Instr} (h : decodePrintChar bs = .ok (i, rest)) :
    bs = encode i ++ rest ∧ i.wf = true := by
  unfold decodePrintChar at h
  split at h
  · split at h <;> cases h
  next c r hc =>
    cases h
    exact ⟨by rw [encode_printInstr, eq_of_takeByte hc], printInstr_wf c⟩

end Sys2Proof
end

section
/-! PROOFS. Decoding and encoding are inverse to each other, command words and stream elements together. -/

namespace Sys2Proof

theorem decodeStream_encode {i : Instr} {c : StreamCtx} (pos : Nat) {rest : List Bool} (hwf : i.wf = true) (hi : i.ctx = some c)
    (hpad : ∀ pad len nlen data, i = .storedBody pad len nlen data → pad.length = padBits pos)
    (hend : i = .escInvalid none → rest = []) : decodeStream c pos (encode i ++ rest) = .ok (i, rest) := by
  cases c with
  | blockHeader => exact decodeBlockHeader_encode hi rest
  | storedBody =>
    cases i with
    | storedBody pad len nlen data =>
      exact decodeStoredBody_encode (hpad _ _ _ _ rfl) (of_decide_eq_true hwf).2 rest
    | _ => cases hi
  | litLen => exact decodeLitLenElement_encode hi hwf rest
  | distance => exact decodeDistanceElement_encode hi rest
  | zlibCmf =>
    cases i with
    | zlibCmf x => exact decodeZlibByte_byteBits .zlibCmf x rest
    | _ => cases hi
  | zlibFlg =>
    cases i with
    | zlibFlg x => exact decodeZlibByte_byteBits .zlibFlg x rest
    | _ => cases hi
  | zlibPayload =>
    cases i with
    | zlibPayload => rfl
    | _ => cases hi
  | zlibTrailer =>
    cases i with
    | zlibAdler32 sum => exact decodeTrailer_encode sum rest
    | _ => cases hi
  | escape => exact decodeEscape_encode hi hwf hend
  | print => exact decodePrintChar_encode hi hwf rest
  | printPad n => exact absurd hi (i.ctx_ne_printPad n)

/-- Settles O9: each stream's fields are read back as they were written, and a command word names one command. -/
theorem decodeOfEncodeIsTheInstruction : Obligations.DecodeOfEncodeIsTheInstruction :=
  ⟨fun _ => decodeCommand_encode, fun _ _ pos _ hwf hi hpad hend => decodeStream_encode pos hwf hi hpad hend⟩

/-- What a stream's bits decode to is the element they encode. -/
theorem eq_of_decodeStream {c : StreamCtx} {pos : Nat} {bits rest : List Bool} {i : Instr}
    (h : decodeStream c pos bits = .ok (i, rest)) : bits = encode i ++ rest ∧ (c ≠ .storedBody → i.wf = true) := by
  cases c with
  | blockHeader => exact (eq_of_decodeBlockHeader h).imp_right fun hwf _ => hwf
  | storedBody => exact ⟨(eq_of_decodeStoredBody h).1, fun hc => absurd rfl hc⟩
  | litLen => exact (eq_of_decodeLitLenElement h).imp_right fun hwf _ => hwf
  | distance => exact (eq_of_decodeDistanceElement h).imp_right fun hwf _ => hwf
  | zlibCmf | zlibFlg => obtain ⟨x, rfl, hbits⟩ := eq_of_decodeZlibByte h; exact ⟨hbits, fun _ => rfl⟩
  | zlibPayload => cases h; exact ⟨rfl, fun _ => rfl⟩
  | zlibTrailer => exact (eq_of_decodeTrailer h).imp_right fun hwf _ => hwf
  | escape => exact (eq_of_decodeEscape h).imp_right fun hwf _ => hwf
  | print | printPad => exact (eq_of_decodePrintChar h).imp_right fun hwf _ => hwf

/-- The element belongs to the stream; the padding micro-phase reads the characters of any text (48_base64.md R288). -/
theorem ctx_of_decodeStream {c : StreamCtx} {pos : Nat} {bits rest : List Bool} {i : Instr}
    (h : decodeStream c pos bits = .ok (i, rest)) : i.ctx = some c ∨ ∃ p, c = .printPad p ∧ i.ctx = some .print := by
  cases c with
  | blockHeader => exact .inl (Machine.decodeBlockHeader_ctx h)
  | storedBody => exact .inl (Machine.decodeStoredBody_ctx h)
  | litLen => exact .inl (Machine.decodeLitLenElement_ctx h)
  | distance => exact .inl (Machine.decodeDistanceElement_ctx h)
  | zlibCmf | zlibFlg => obtain ⟨x, rfl, -⟩ := eq_of_decodeZlibByte h; exact .inl rfl
  | zlibPayload => cases h; exact .inl rfl
  | zlibTrailer => exact .inl (Machine.decodeTrailer_ctx h)
  | escape => exact .inl (Machine.decodeEscape_ctx h)
  | print => exact .inl (Machine.decodePrintChar_ctx h)
  | printPad p => exact .inr ⟨p, rfl, Machine.decodePrintChar_ctx h⟩

/-- Settles O10: each decoder takes exactly the bits of the element it answers, and a command word is the bits of its
command. -/
theorem decodedBitsAreTheEncoding : Obligations.DecodedBitsAreTheEncoding := by
  refine ⟨fun w => ⟨encode_decodeCommand w, decodeCommand_wf w⟩, fun c pos bits rest i h => ?_⟩
  obtain ⟨hbits, hwf⟩ := eq_of_decodeStream h
  have hctx := ctx_of_decodeStream h
  refine ⟨hbits, hctx, hwf, ?_⟩
  rintro pad len nlen data rfl
  obtain rfl : c = .storedBody := by
    rcases hctx with hc | ⟨_, _, hc⟩ <;> cases hc
    rfl
  obtain ⟨-, pad', len', nlen', data', heq, hlengths⟩ := eq_of_decodeStoredBody h
  cases heq
  exact hlengths

/-- Settles O8: each word is evaluated, against the decoder's tables alone. -/
theorem specWordsDecode : Obligations.SpecWordsDecode := by
  unfold Obligations.SpecWordsDecode
  constructorm* _ ∧ _ <;> decide

end Sys2Proof
end

section
/-! PROOFS. The bit writer (40_bitstream.md R131 to R133): what a run of it adds to the bits written so far, and what it leaves
as it was. -/

namespace Sys2Proof

/-! ### The bits of a field -/

theorem lsbBits_eq_map_testBit (n v : Nat) : lsbBits n v = (List.range n).map v.testBit := by
  induction n generalizing v with
  | zero => rfl
  | succ n ih =>
    rw [lsbBits, ih, List.range_succ_eq_map, List.map_cons, List.map_map]
    simp [Function.comp_def, Nat.testBit_succ]

theorem msbBits_eq_map_testBit (n v : Nat) : msbBits n v = (List.range n).map fun i => v.testBit (n - 1 - i) := by
  induction n with
  | zero => rfl
  | succ n ih =>
    rw [msbBits, ih, List.range_succ_eq_map, List.map_cons, List.map_map]
    simp [Function.comp_def, Nat.sub_sub, Nat.add_comm]

/-- Only the low `n` bits count. -/
theorem msbBits_mod (n v : Nat) : msbBits n (v % 2 ^ n) = msbBits n v := by
  rw [msbBits_eq_map_testBit, msbBits_eq_map_testBit]
  refine List.map_congr_left fun i hi => ?_
  rw [List.mem_range] at hi
  have hlow : n - 1 - i < n := by omega
  rw [Nat.testBit_mod_two_pow, decide_eq_true hlow, Bool.true_and]

/-- The bits of the reversed code, least significant first, are those of the code, most significant first (R133). -/
theorem lsbBits_rev (code len : Nat) : lsbBits len (Ref.rev code len) = msbBits len code := by
  induction len with
  | zero => rfl
  | succ len ih =>
    have hlow : (Ref.rev code (len + 1)).testBit 0 = code.testBit len := by
      rw [Ref.rev, Nat.testBit_zero, Nat.add_mul_mod_self_left, Nat.mod_mod, Nat.testBit_eq_decide_div_mod_eq,
        Nat.shiftRight_eq_div_pow]
    have hhigh : Ref.rev code (len + 1) / 2 = Ref.rev code len := by rw [Ref.rev]; omega
    rw [lsbBits, msbBits, hlow, hhigh, ih]

/-- A field below `2 ^ n` and another above it. -/
theorem lsbBits_low_append_high {n x : Nat} (hx : x < 2 ^ n) (m y : Nat) :
    lsbBits (n + m) (x + 2 ^ n * y) = lsbBits n x ++ lsbBits m y := by
  rw [lsbBits_append, ← lsbBits_mod, Nat.add_mul_mod_self_left, Nat.mod_eq_of_lt hx,
    Nat.add_mul_div_left _ _ (Nat.two_pow_pos n), Nat.div_eq_of_lt hx, Nat.zero_add]

theorem lsbBits_toNat (b : Bool) : lsbBits 1 b.toNat = [b] := by cases b <;> rfl

theorem lsbBits_zero (n : Nat) : lsbBits n 0 = List.replicate n false := by
  simp [lsbBits_eq_map_testBit, List.eq_replicate_iff]

end Sys2Proof

namespace Sys2Proof.Machine

/-! ### What a run of the writer does -/

/-- The writer's invariant: no stray bit in the accumulator (10_state.md R30), and `OUT` in canonical form. -/
structure WriterOk (s : State) : Prop where
  pending : Ref.pendingOk s
  canonical : s.outBuf.wf = true

/-- The writer has come from `s` to `t` by writing `bits`. -/
structure Writes (bits : List Bool) (s t : State) : Prop where
  ok : WriterOk t
  written : Ref.writtenBits t = Ref.writtenBits s ++ bits
  grows : s.outLen ≤ t.outLen
  kept : ∀ a, a < s.outLen ∨ t.outLen ≤ a → t.outBuf.read a = s.outBuf.read a
  only : onlyWriter s t

theorem writes_nil {s : State} (h : WriterOk s) : Writes [] s s :=
  ⟨h, (List.append_nil _).symm, Nat.le_refl _, fun _ _ => rfl, onlyWriter_refl s⟩

theorem Writes.append {xs ys : List Bool} {s t u : State} (h : Writes xs s t) (h' : Writes ys t u) :
    Writes (xs ++ ys) s u where
  ok := h'.ok
  written := by rw [h'.written, h.written, List.append_assoc]
  grows := h.grows.trans h'.grows
  kept a ha := by
    have := h.grows
    have := h'.grows
    rw [h'.kept a (by omega), h.kept a (by omega)]
  only := onlyWriter_trans h.only h'.only

theorem length_writtenBits (s : State) : (Ref.writtenBits s).length = 8 * s.outLen + s.wcnt.toNat := by
  simp [Ref.writtenBits, State.output]

theorem output_append {s : State} (h : s.outBuf.wf = true) (x : Byte) : (append x s).output = s.output ++ [x] := by
  simp only [State.output, Memory.bytes, append_outLen, append_outBuf, List.range_succ, List.map_append, List.map_cons,
    List.map_nil, Nat.zero_add, Memory.read_write_same h]
  congr 1
  refine List.map_congr_left fun a ha => Memory.read_write_other x ?_
  exact Nat.ne_of_lt (List.mem_range.1 ha)

/-- A byte that begins with the pending bits takes their place. -/
theorem writes_byte {s : State} {x : Byte} {bits : List Bool} (h : WriterOk s)
    (hx : byteBits x = lsbBits s.wcnt.toNat s.wacc.toNat ++ bits) :
    Writes bits s { append x s with wacc := 0#8, wcnt := 0#3 } where
  ok := ⟨Nat.one_pos, Memory.wf_write h.canonical _ _⟩
  written := by
    have hout : Ref.writtenBits { append x s with wacc := 0#8, wcnt := 0#3 } = bytesBits (append x s).output :=
      List.append_nil _
    rw [hout, output_append h.canonical, Ref.writtenBits, List.append_assoc, ← hx]
    simp [bytesBits]
  grows := Nat.le_succ _
  kept a ha := Memory.read_write_other x (by dsimp only [append_outLen] at ha; omega)
  only := rfl

/-- The accumulator of the pending bits and one more. -/
theorem toNat_wacc_or {s : State} (h : Ref.pendingOk s) (b : Bool) :
    (s.wacc ||| ((BitVec.ofBool b).setWidth 8 <<< s.wcnt.toNat)).toNat = s.wacc.toNat + 2 ^ s.wcnt.toNat * b.toNat := by
  have hcnt : 2 ^ s.wcnt.toNat ≤ 2 ^ 7 := Nat.pow_le_pow_right (by decide) (by omega)
  have hbit : ((BitVec.ofBool b).setWidth 8).toNat = b.toNat := by cases b <;> rfl
  have hb : 2 ^ s.wcnt.toNat * b.toNat < 2 ^ 8 := by have := Nat.mul_le_mul hcnt b.toNat_le; omega
  rw [BitVec.toNat_or, BitVec.toNat_shiftLeft, hbit, Nat.shiftLeft_eq, Nat.mul_comm, Nat.mod_eq_of_lt hb, Nat.or_comm,
    ← Nat.two_pow_add_eq_or_of_lt h, Nat.add_comm]

theorem writes_writeBit {s : State} (h : WriterOk s) (b : Bool) : Writes [b] s (writeBit b s) := by
  have hacc := toNat_wacc_or h.pending b
  have hbits : lsbBits (s.wcnt.toNat + 1) (s.wacc ||| ((BitVec.ofBool b).setWidth 8 <<< s.wcnt.toNat)).toNat =
      lsbBits s.wcnt.toNat s.wacc.toNat ++ [b] := by
    rw [hacc, lsbBits_low_append_high h.pending, lsbBits_toNat]
  unfold writeBit
  dsimp only
  split
  next hfull =>
    refine writes_byte h ?_
    rw [← hbits, hfull]
    rfl
  next hroom =>
    have hcnt : (s.wcnt + 1#3).toNat = s.wcnt.toNat + 1 := by bv_omega
    refine ⟨⟨?_, h.canonical⟩, ?_, Nat.le_refl _, fun _ _ => rfl, rfl⟩
    · have hlow : s.wacc.toNat < 2 ^ s.wcnt.toNat := h.pending
      have hbit := Nat.mul_le_mul_left (2 ^ s.wcnt.toNat) b.toNat_le
      rw [Ref.pendingOk, hcnt, hacc, Nat.pow_succ]
      omega
    · simp only [Ref.writtenBits, hcnt, hbits, List.append_assoc]
      rfl

theorem writes_writeBitList (bits : List Bool) {s : State} (h : WriterOk s) : Writes bits s (writeBitList bits s) := by
  induction bits generalizing s with
  | nil => exact writes_nil h
  | cons b bits ih =>
    have hb := writes_writeBit h b
    exact hb.append (ih hb.ok)

theorem writes_writeBits (value n : Nat) {s : State} (h : WriterOk s) : Writes (lsbBits n value) s (writeBits value n s) :=
  writes_writeBitList _ h

/-- Settles O14: the bits written grow by the field's, which fixes `OUT_LEN` and `wcnt` by their number. -/
theorem writeBitsAppendsTheLowBits : Obligations.WriteBitsAppendsTheLowBits := by
  intro s value n hpending hwf
  have h := writes_writeBits value n (s := s) ⟨hpending, hwf⟩
  have hlen := congrArg List.length h.written
  rw [List.length_append, length_lsbBits, length_writtenBits, length_writtenBits] at hlen
  refine ⟨h.written, h.ok.pending, by omega, by omega, fun a ha => h.kept a (.inl ha), fun a ha => h.kept a (.inr ha), h.only, ?_⟩
  rintro rfl
  rfl

/-! ### Flush -/

theorem flush_of_wcnt_zero {s : State} (h : s.wcnt = 0#3) : flush s = s := if_pos h

theorem flush_of_wcnt_ne_zero {s : State} (h : s.wcnt ≠ 0#3) :
    flush s = { append s.wacc s with wacc := 0#8, wcnt := 0#3 } := if_neg h

@[simp] theorem flush_wcnt (s : State) : (flush s).wcnt = 0#3 := by
  by_cases h : s.wcnt = 0#3
  · rw [flush_of_wcnt_zero h, h]
  · rw [flush_of_wcnt_ne_zero h]

/-- The pending byte is the pending bits and zero bits. -/
theorem byteBits_wacc {s : State} (h : Ref.pendingOk s) :
    byteBits s.wacc = lsbBits s.wcnt.toNat s.wacc.toNat ++ List.replicate (8 - s.wcnt.toNat) false := by
  have hbits := lsbBits_low_append_high h (8 - s.wcnt.toNat) 0
  rwa [Nat.mul_zero, Nat.add_zero, Nat.add_sub_cancel' (by omega), lsbBits_zero] at hbits

theorem writes_flush {s : State} (h : WriterOk s) :
    Writes (List.replicate ((8 - s.wcnt.toNat) % 8) false) s (flush s) := by
  by_cases hcnt : s.wcnt = 0#3
  · rw [flush_of_wcnt_zero hcnt, hcnt]
    exact writes_nil h
  · have hpos : 0 < s.wcnt.toNat := by bv_omega
    rw [flush_of_wcnt_ne_zero hcnt, Nat.mod_eq_of_lt (by omega)]
    exact writes_byte h (byteBits_wacc h.pending)

/-! ### Codes -/

theorem writeBits_toNat_one (b : Bool) (s : State) : writeBits b.toNat 1 s = writeBit b s := by
  rw [writeBits, lsbBits_toNat]; rfl

theorem writeBitList_eq_foldl (bits : List Bool) (s : State) :
    writeBitList bits s = bits.foldl (fun t b => writeBits b.toNat 1 t) s := by
  induction bits generalizing s with
  | nil => rfl
  | cons b bits ih => rw [writeBitList, ih, List.foldl_cons, writeBits_toNat_one]

/-- Settles O15: the flushed byte is the pending bits padded with zeros, and a code's bits are those of the reversed code. -/
theorem flushPadsAndWriteCodeReverses : Obligations.FlushPadsAndWriteCodeReverses := by
  refine ⟨fun s hpending hwf => ⟨flush_of_wcnt_zero, fun hcnt => ⟨flush_of_wcnt_ne_zero hcnt, ?_, fun a ha => ?_⟩,
    flush_of_wcnt_zero (flush_wcnt s)⟩, fun s code len => ⟨?_, ?_⟩⟩
  · rw [flush_of_wcnt_ne_zero hcnt]
    exact (writes_byte ⟨hpending, hwf⟩ (byteBits_wacc hpending)).written
  · rw [flush_of_wcnt_ne_zero hcnt]
    exact Memory.read_write_other s.wacc ha
  · rw [writeCode, writeBits, lsbBits_rev]
  · rw [writeCode, writeBitList_eq_foldl, msbBits_eq_map_testBit]

end Sys2Proof.Machine
end

section
/-! PROOFS. The bit reader (40_bitstream.md R134 to R137): `ReadBits` takes a field off the front of the unread bits and moves
the cursor past it. -/

namespace Sys2Proof

theorem getElem?_byteBits (x : Byte) {k : Nat} (hk : k < 8) : (byteBits x)[k]? = some (x.getLsbD k) := by
  simp [byteBits, lsbBits_eq_map_testBit, hk, BitVec.testBit_toNat]

/-- Bit `k` of a byte sequence (20_memory.md R66). -/
theorem getElem?_bytesBits (xs : List Byte) (k : Nat) : (bytesBits xs)[k]? = xs[k / 8]?.map (·.getLsbD (k % 8)) := by
  induction xs generalizing k with
  | nil => rfl
  | cons x xs ih =>
    rw [bytesBits_cons]
    by_cases hk : k < 8
    · rw [List.getElem?_append_left (by simpa using hk), getElem?_byteBits x hk, Nat.div_eq_of_lt hk, Nat.mod_eq_of_lt hk]
      rfl
    · obtain ⟨j, rfl⟩ := Nat.exists_eq_add_of_le' (Nat.le_of_not_lt hk)
      rw [List.getElem?_append_right (by simp), Machine.length_byteBits, Nat.add_sub_cancel, ih,
        Nat.add_div_right j (by decide), Nat.add_mod_right, List.getElem?_cons_succ]

theorem or_shiftLeft_eq_add {n x : Nat} (hx : x < 2 ^ n) (y : Nat) : x ||| (y <<< n) = x + 2 ^ n * y := by
  rw [Nat.or_comm, ← Nat.shiftLeft_add_eq_or_of_lt hx, Nat.shiftLeft_eq, Nat.add_comm, Nat.mul_comm y]

theorem or_shiftLeft_lt_iff {n x : Nat} (hx : x < 2 ^ n) (m y : Nat) : x ||| (y <<< n) < 2 ^ (n + m) ↔ y < 2 ^ m := by
  have hpos := Nat.two_pow_pos n
  rw [or_shiftLeft_eq_add hx, Nat.add_comm n, Nat.pow_add, ← Nat.div_lt_iff_lt_mul hpos, Nat.add_mul_div_left _ _ hpos,
    Nat.div_eq_of_lt hx, Nat.zero_add]

theorem append_prefix_iff (xs ys bits : List Bool) : xs ++ ys <+: bits ↔ xs <+: bits ∧ ys <+: bits.drop xs.length := by
  constructor
  · rintro ⟨rest, rfl⟩
    simp
  · rintro ⟨⟨rest, rfl⟩, h⟩
    simpa using h

end Sys2Proof

namespace Sys2Proof.Machine

/-! ### The cursor -/

/-- The cursor is in range when the position it stands for is (10_state.md R31). -/
theorem cursorOk_iff (s : State) : Ref.cursorOk s ↔ 8 * s.rpos + s.rbit.toNat ≤ 8 * s.rend := by
  have hzero : s.rbit = 0#3 ↔ s.rbit.toNat = 0 := by bv_omega
  rw [Ref.cursorOk, hzero]
  omega

theorem position_advanceBits (n : Nat) (s : State) :
    8 * (advanceBits n s).rpos + (advanceBits n s).rbit.toNat = 8 * s.rpos + s.rbit.toNat + n := by
  rw [advanceBits_rpos, advanceBits_rbit, BitVec.toNat_ofNat]
  omega

theorem advanceBits_zero (s : State) : advanceBits 0 s = s := by
  have hpos : s.rpos + (s.rbit.toNat + 0) / 8 = s.rpos := by omega
  rw [advanceBits, hpos, Nat.add_zero, BitVec.ofNat_toNat, BitVec.setWidth_eq]

theorem advanceBits_advanceBits (m n : Nat) (s : State) : advanceBits m (advanceBits n s) = advanceBits (n + m) s := by
  simp only [advanceBits, BitVec.toNat_ofNat]
  congr 1
  · omega
  · apply BitVec.eq_of_toNat_eq
    simp only [BitVec.toNat_ofNat]
    omega

theorem alignByte_of_rbit_zero {s : State} (h : s.rbit = 0#3) : alignByte s = s := if_pos h

theorem alignByte_of_rbit_ne_zero {s : State} (h : s.rbit ≠ 0#3) : alignByte s = { s with rbit := 0#3, rpos := s.rpos + 1 } :=
  if_neg h

/-! ### Reading a field -/

theorem readBits_of_bitsLeft_lt {n : Nat} {s : State} (h : bitsLeft s < n) : readBits n s = .error .truncatedStream := if_pos h

/-- A field is read exactly when its bits are the next unread ones. -/
theorem readBits_eq_ok_iff {n v : Nat} {s t : State} :
    readBits n s = .ok (v, t) ↔ v < 2 ^ n ∧ lsbBits n v <+: readerBits s ∧ t = advanceBits n s := by
  constructor
  · intro h
    unfold readBits at h
    split at h
    · cases h
    · split at h
      next w rest hw =>
        cases h
        obtain ⟨hlt, hbits⟩ := eq_of_takeLsb hw
        exact ⟨hlt, ⟨rest, hbits.symm⟩, rfl⟩
      next => cases h
  · rintro ⟨hlt, ⟨rest, hrest⟩, rfl⟩
    have hroom : ¬ bitsLeft s < n := by simp [← length_readerBits, ← hrest]
    rw [readBits, if_neg hroom, ← hrest, takeLsb_lsbBits hlt]

theorem readBits_of_le_bitsLeft {n : Nat} {s : State} (h : n ≤ bitsLeft s) : ∃ v, readBits n s = .ok (v, advanceBits n s) := by
  cases htake : takeLsb n (readerBits s) with
  | none =>
    have := length_lt_of_takeLsb_eq_none htake
    rw [length_readerBits] at this
    omega
  | some p =>
    obtain ⟨hlt, hbits⟩ := eq_of_takeLsb htake
    exact ⟨p.1, readBits_eq_ok_iff.2 ⟨hlt, ⟨p.2, hbits.symm⟩, rfl⟩⟩

/-- The unread bits, in the bytes of `IN` (10_state.md R31). -/
theorem getElem?_readerBits {k : Nat} {s : State} (hk : k < bitsLeft s) :
    (readerBits s)[k]? = some ((s.inBuf.read (s.rpos + (s.rbit.toNat + k) / 8)).getLsbD ((s.rbit.toNat + k) % 8)) := by
  have hroom : (s.rbit.toNat + k) / 8 < s.rend - s.rpos := by rw [bitsLeft] at hk; omega
  simp [readerBits, getElem?_bytesBits, Memory.bytes, hroom]

theorem testBit_of_readBits {n v k : Nat} {s t : State} (h : readBits n s = .ok (v, t)) (hk : k < n) :
    v.testBit k = (s.inBuf.read (s.rpos + (s.rbit.toNat + k) / 8)).getLsbD ((s.rbit.toNat + k) % 8) := by
  obtain ⟨-, ⟨rest, hrest⟩, -⟩ := readBits_eq_ok_iff.1 h
  have hget : (readerBits s)[k]? = some (v.testBit k) := by
    rw [← hrest, List.getElem?_append_left (by simpa using hk)]
    simp [lsbBits_eq_map_testBit, hk]
  have hleft : k < bitsLeft s := length_readerBits s ▸ (List.getElem?_eq_some_iff.1 hget).1
  rw [getElem?_readerBits hleft] at hget
  exact (Option.some.inj hget).symm

/-- Settles O16: the field is the front of the unread bits, and the cursor's position grows by its width. -/
theorem readBitsAndAlignByte : Obligations.ReadBitsAndAlignByte := by
  intro s n hs
  rw [cursorOk_iff] at hs
  refine ⟨readBits_of_bitsLeft_lt, fun hn => ?_, alignByte_of_rbit_zero, fun hbit => ⟨alignByte_of_rbit_ne_zero hbit, ?_⟩⟩
  · obtain ⟨v, hv⟩ := readBits_of_le_bitsLeft hn
    have hlt := (readBits_eq_ok_iff.1 hv).1
    have hpos := position_advanceBits n s
    have hleft : bitsLeft s = 8 * s.rend - (8 * s.rpos + s.rbit.toNat) := by rw [bitsLeft]; omega
    refine ⟨v, advanceBits n s, hv, hlt, fun k => testBit_of_readBits hv, hpos, ?_, fun hall => ?_, ?_, rfl⟩
    · rw [cursorOk_iff, hpos, advanceBits_rend]
      omega
    · have hend : (advanceBits n s).rend = s.rend := rfl
      exact ⟨by omega, BitVec.eq_of_toNat_eq (by simp only [BitVec.toNat_ofNat]; omega)⟩
    · rintro rfl
      exact ⟨Nat.lt_one_iff.1 hlt, advanceBits_zero s⟩
  · have : 0 < s.rbit.toNat := by bv_omega
    omega

end Sys2Proof.Machine
end

section
/-! PROOFS. The writer and the reader are inverse to each other (40_bitstream.md R137). -/

namespace Sys2Proof.Machine

/-! ### Fields -/

/-- R137 (a): two fields are read as the field they make together. -/
theorem readBits_readBits_iff {n m x y : Nat} {s t : State} :
    (∃ u, readBits n s = .ok (x, u) ∧ readBits m u = .ok (y, t)) ↔
      x < 2 ^ n ∧ readBits (n + m) s = .ok (x ||| (y <<< n), t) := by
  simp only [readBits_eq_ok_iff]
  constructor
  · rintro ⟨_, ⟨hx, hxs, rfl⟩, hy, hys, rfl⟩
    rw [readerBits_advanceBits] at hys
    refine ⟨hx, (or_shiftLeft_lt_iff hx m y).2 hy, ?_, advanceBits_advanceBits m n s⟩
    rw [or_shiftLeft_eq_add hx, lsbBits_low_append_high hx, append_prefix_iff, length_lsbBits]
    exact ⟨hxs, hys⟩
  · rintro ⟨hx, hy, hbits, rfl⟩
    rw [or_shiftLeft_eq_add hx, lsbBits_low_append_high hx, append_prefix_iff, length_lsbBits,
      ← readerBits_advanceBits] at hbits
    exact ⟨_, ⟨hx, hbits.1, rfl⟩, (or_shiftLeft_lt_iff hx m y).1 hy, hbits.2, (advanceBits_advanceBits m n s).symm⟩

/-- The bits of a sequence of fields, each a value and its width. -/
def fieldsBits (fields : List (Nat × Nat)) : List Bool := fields.flatMap fun f => lsbBits f.2 f.1

theorem writes_fields (fields : List (Nat × Nat)) {s : State} (h : WriterOk s) :
    Writes (fieldsBits fields) s (fields.foldl (fun t f => writeBits f.1 f.2 t) s) := by
  induction fields generalizing s with
  | nil => exact writes_nil h
  | cons f fields ih =>
    have hf := writes_writeBits f.1 f.2 h
    exact hf.append (ih hf.ok)

theorem readBits_of_readerBits {n v : Nat} {s : State} {rest : List Bool} (h : readerBits s = lsbBits n v ++ rest) :
    readBits n s = .ok (v % 2 ^ n, advanceBits n s) ∧ readerBits (advanceBits n s) = rest := by
  refine ⟨readBits_eq_ok_iff.2 ⟨Nat.mod_lt _ (Nat.two_pow_pos n), ⟨rest, ?_⟩, rfl⟩, ?_⟩
  · rw [lsbBits_mod, h]
  · rw [readerBits_advanceBits, h, List.drop_left' (length_lsbBits n v)]

theorem readAll_of_readerBits {fields : List (Nat × Nat)} {s : State} {rest : List Bool}
    (h : readerBits s = fieldsBits fields ++ rest) :
    ∃ u, Ref.readAll (fields.map Prod.snd) s = .ok (fields.map fun f => f.1 % 2 ^ f.2, u) ∧ readerBits u = rest := by
  induction fields generalizing s with
  | nil => exact ⟨s, rfl, h⟩
  | cons f fields ih =>
    rw [fieldsBits, List.flatMap_cons, List.append_assoc] at h
    obtain ⟨hread, hnext⟩ := readBits_of_readerBits h
    obtain ⟨u, hall, hrest⟩ := ih hnext
    exact ⟨u, by simp [Ref.readAll, hread, hall], hrest⟩

/-! ### Codes -/

/-- The bit-by-bit walk of R137 folds the bits as `takeMsb` does. -/
theorem readCode_of_takeMsb {len acc v : Nat} {s : State} {rest : List Bool}
    (h : takeMsb len acc (readerBits s) = some (v, rest)) : ∃ u, Ref.readCode len acc s = .ok (v, u) := by
  induction len generalizing acc s with
  | zero => cases h; exact ⟨s, rfl⟩
  | succ len ih =>
    cases hbits : readerBits s with
    | nil => rw [hbits] at h; cases h
    | cons b bits =>
      have hone : readerBits s = lsbBits 1 b.toNat ++ bits := by rw [lsbBits_toNat, hbits]; rfl
      obtain ⟨hread, hnext⟩ := readBits_of_readerBits hone
      rw [hbits, takeMsb, ← hnext, Nat.mul_comm] at h
      obtain ⟨u, hu⟩ := ih h
      have hb : b.toNat % 2 ^ 1 = b.toNat := Nat.mod_eq_of_lt b.toNat_lt
      refine ⟨u, ?_⟩
      rw [Ref.readCode, Ref.readField, hread, hb]
      exact hu

/-! ### The output of a writer -/

theorem readerBits_of_readsOutputOf {t r : State} (h : Ref.readsOutputOf t r) (hcnt : t.wcnt = 0#3) :
    readerBits r = Ref.writtenBits t := by
  obtain ⟨hbuf, hpos, hbit, hend⟩ := h
  simp [readerBits, Ref.writtenBits, State.output, lsbBits, hbuf, hpos, hbit, hend, hcnt]

/-- A reader of what an empty writer has written and flushed finds the bits and at most seven zeros. -/
theorem readerBits_of_writes {bits : List Bool} {s t r : State} (hlen : s.outLen = 0) (hcnt : s.wcnt = 0#3)
    (h : Writes bits s t) (hr : Ref.readsOutputOf (flush t) r) :
    ∃ k ≤ 7, readerBits r = bits ++ List.replicate k false := by
  have hempty : Ref.writtenBits s = [] := List.eq_nil_of_length_eq_zero (by simp [length_writtenBits, hlen, hcnt])
  refine ⟨(8 - t.wcnt.toNat) % 8, by omega, ?_⟩
  rw [readerBits_of_readsOutputOf hr (flush_wcnt t), (writes_flush h.ok).written, h.written, hempty, List.nil_append]

theorem writerOk_of_empty {s : State} (hbuf : s.outBuf = []) (hacc : s.wacc = 0#8) : WriterOk s := by
  refine ⟨?_, by rw [hbuf]; rfl⟩
  rw [Ref.pendingOk, hacc]
  exact Nat.two_pow_pos _

/-- Settles O17: what a reader finds in a flushed writer's output is the bits written, and it reads them as they were written. -/
theorem bitStreamLaws : Obligations.BitStreamLaws := by
  refine ⟨fun s t n m x y _ => readBits_readBits_iff, fun s r fields hbuf hlen hacc hcnt hr => ?_,
    fun s r code len hbuf hlen hacc hcnt hr => ?_⟩
  · obtain ⟨k, hk, hbits⟩ := readerBits_of_writes hlen hcnt (writes_fields fields (writerOk_of_empty hbuf hacc)) hr
    obtain ⟨u, hread, hrest⟩ := readAll_of_readerBits hbits
    have hleft : bitsLeft u = k := by rw [← length_readerBits, hrest, List.length_replicate]
    exact ⟨u, hread, hleft ▸ hk, hleft ▸ hrest⟩
  · obtain ⟨k, -, hbits⟩ := readerBits_of_writes hlen hcnt (writes_writeBitList _ (writerOk_of_empty hbuf hacc)) hr
    have htake := takeMsb_msbBits len (code % 2 ^ len) (List.replicate k false)
    rw [msbBits_mod, Nat.div_eq_of_lt (Nat.mod_lt _ (Nat.two_pow_pos len)), ← hbits] at htake
    exact readCode_of_takeMsb htake

end Sys2Proof.Machine
end

section
/-! PROOFS. The canonical codes (41_huffman_tables.md R153): each row of R152 gives its codes in increasing order, so the codes
of one length over all 288 symbols are the rows of that length one behind the other. -/

namespace Sys2Proof

/-- The codes of length `len` among `syms`, in the order of `syms`. -/
def litLenCodesOfLength (len : Nat) (syms : List Nat) : List Nat :=
  (syms.filter fun s => (Rom.litLenCode s).2 == len).map fun s => (Rom.litLenCode s).1

theorem litLenCodesOfLength_append (len : Nat) (xs ys : List Nat) :
    litLenCodesOfLength len (xs ++ ys) = litLenCodesOfLength len xs ++ litLenCodesOfLength len ys := by
  simp [litLenCodesOfLength]

/-- A row of R152: `n` symbols from `start`, whose codes of length `len` rise by one from `first`. -/
theorem litLenCodesOfLength_row {start n first len : Nat}
    (hrow : ∀ s, start ≤ s → s < start + n → Rom.litLenCode s = (first + (s - start), len)) (m : Nat) :
    litLenCodesOfLength m (List.range' start n) = if len = m then List.range' first n else [] := by
  have hlen : ∀ s ∈ List.range' start n, ((Rom.litLenCode s).2 == m) = decide (len = m) := by
    intro s hs
    obtain ⟨hge, hlt⟩ := List.mem_range'_1.mp hs
    rw [hrow s hge hlt, beq_eq_decide]
  rw [litLenCodesOfLength, List.filter_congr hlen]
  split_ifs with h
  · have hcode : ∀ i ∈ List.range n, (Rom.litLenCode (start + i)).1 = first + i := by
      intro i hi
      rw [hrow _ (Nat.le_add_right ..) (by simpa using hi), Nat.add_sub_cancel_left]
    simpa [h, List.range'_eq_map_range] using hcode
  · simp [h]

/-- The four rows of R152 cover the symbols in increasing order. -/
theorem range_eq_litLenRows :
    List.range 288 = List.range' 0 144 ++ List.range' 144 112 ++ List.range' 256 24 ++ List.range' 280 8 := by
  rw [List.range'_append_1, List.range'_append_1, List.range'_append_1, List.range_eq_range']

/-- The codes of one length, over all symbols. -/
theorem litLenCodesOfLength_range (m : Nat) :
    litLenCodesOfLength m (List.range 288) =
      (if 8 = m then List.range' 0x30 144 else []) ++ (if 9 = m then List.range' 0x190 112 else []) ++
        (if 7 = m then List.range' 0 24 else []) ++ (if 8 = m then List.range' 0xC0 8 else []) := by
  simp only [range_eq_litLenRows, litLenCodesOfLength_append]
  congr
  · exact litLenCodesOfLength_row (fun s _ h => litLenCode_lowLiteral (by omega)) m
  · exact litLenCodesOfLength_row (fun s h h' => litLenCode_highLiteral h (by omega)) m
  · refine litLenCodesOfLength_row (fun s h h' => ?_) m
    rw [litLenCode_lowLength h (by omega), Nat.zero_add]
  · exact litLenCodesOfLength_row (fun s h _ => litLenCode_highLength h) m

theorem litLenCodesOfLength_seven : litLenCodesOfLength 7 (List.range 288) = List.range' 0 24 := by
  simp [litLenCodesOfLength_range]

/-- The two rows of eight-bit codes join: the second begins where the first ends. -/
theorem litLenCodesOfLength_eight : litLenCodesOfLength 8 (List.range 288) = List.range' 0x30 152 := by
  simpa [litLenCodesOfLength_range] using List.range'_append_1 (s := 0x30) (m := 144) (n := 8)

theorem litLenCodesOfLength_nine : litLenCodesOfLength 9 (List.range 288) = List.range' 0x190 112 := by
  simp [litLenCodesOfLength_range]

/-- There are as many symbols of a length as codes of it. -/
theorem length_symbolsOfLength {len first n : Nat} (h : litLenCodesOfLength len (List.range 288) = List.range' first n) :
    ((List.range 288).filter fun s => (Rom.litLenCode s).2 == len).length = n := by
  simpa [litLenCodesOfLength] using congrArg List.length h

theorem litLenCode_length (s : Nat) :
    (Rom.litLenCode s).2 = if s ≤ 143 then 8 else if s ≤ 255 then 9 else if s ≤ 279 then 7 else 8 := by
  rw [Rom.litLenCode]
  split_ifs <;> rfl

/-- Settles O12: the lengths are R152's, and the codes of a length are its rows one behind the other. -/
theorem litLenCodesAreCanonical : Obligations.LitLenCodesAreCanonical :=
  ⟨fun s => litLenCode_length s,
    length_symbolsOfLength litLenCodesOfLength_seven,
    length_symbolsOfLength litLenCodesOfLength_eight,
    length_symbolsOfLength litLenCodesOfLength_nine,
    litLenCodesOfLength_seven, litLenCodesOfLength_eight, litLenCodesOfLength_nine, by decide⟩

end Sys2Proof
end

section
/-! PROOFS. Symbol selection (41_huffman_tables.md R160): over a rising table `largestAtMost` is the largest index whose entry is
at most the value; the tables of R156 and R157 leave no gap between two ranges, so the offset fits the extra bits. -/

namespace Sys2Proof.Machine

/-! ### The largest index of a rising table -/

/-- In a rising table the entries at most `x` stand first. -/
theorem lt_length_takeWhile_iff {table : List Nat} (hrise : table.Pairwise (· ≤ ·)) {x i : Nat} (hi : i < table.length) :
    i < (table.takeWhile fun base => decide (base ≤ x)).length ↔ table.getD i 0 ≤ x := by
  induction table generalizing i with
  | nil => cases hi
  | cons a rest ih =>
    obtain ⟨hle, hrest⟩ := List.pairwise_cons.mp hrise
    by_cases ha : a ≤ x
    · cases i with
      | zero => simp [ha]
      | succ i => simpa [ha] using ih hrest (Nat.lt_of_succ_lt_succ hi)
    · have hbig : a ≤ (a :: rest).getD i 0 := by
        cases i with
        | zero => exact Nat.le_refl a
        | succ i =>
          have hi' : i < rest.length := Nat.lt_of_succ_lt_succ hi
          simpa [hi'] using hle _ (List.getElem_mem hi')
      simp only [List.takeWhile_cons, ha, decide_false, Bool.false_eq_true, if_false, List.length_nil, Nat.not_lt_zero,
        false_iff]
      omega

theorem le_largestAtMost_iff {table : List Nat} (hrise : table.Pairwise (· ≤ ·)) {x i : Nat} (hfirst : table.getD 0 0 ≤ x)
    (hi : i < table.length) : i ≤ largestAtMost table x ↔ table.getD i 0 ≤ x := by
  have hpos := (lt_length_takeWhile_iff hrise (Nat.zero_lt_of_lt hi)).mpr hfirst
  rw [← lt_length_takeWhile_iff hrise hi, largestAtMost]
  omega

theorem largestAtMost_le {table : List Nat} (x : Nat) : largestAtMost table x ≤ table.length - 1 :=
  Nat.sub_le_sub_right (List.takeWhile_prefix _).length_le 1

/-- Where each range reaches the next one's base, a value below the end of the last range is in the range of its largest base. -/
theorem sub_base_lt_of_largest {base width : Nat → Nat} {last k x : Nat} (hk : k ≤ last)
    (hmax : ∀ i ≤ last, base i ≤ x → i ≤ k) (hnext : ∀ i < last, base (i + 1) ≤ base i + width i)
    (hle : base k ≤ x) (hend : x < base last + width last) : x - base k < width k := by
  obtain rfl | hlt := Nat.eq_or_lt_of_le hk
  · omega
  · have hbelow : x < base (k + 1) := by
      by_contra hge
      exact Nat.not_succ_le_self k (hmax (k + 1) hlt (by omega))
    have := hnext k hlt
    omega

/-! ### Lengths -/

theorem lenSym_maxMatch : lenSym 258 = 28 := rfl

theorem lenSym_le {L : Nat} (h : L ≤ 257) : lenSym L ≤ 27 := by
  rw [lenSym, if_neg (by omega)]
  exact largestAtMost_le L

theorem le_lenSym_iff {L i : Nat} (h : 3 ≤ L) (h' : L ≤ 257) (hi : i ≤ 27) : i ≤ lenSym L ↔ Rom.lenBase i ≤ L := by
  have hbase : (Rom.lenBases.take 28).getD i 0 = Rom.lenBase i := by
    rw [Rom.lenBase, List.getD_eq_getElem?_getD, List.getElem?_take_of_lt (by omega), List.getD_eq_getElem?_getD]
  rw [lenSym, if_neg (by omega), ← hbase]
  exact le_largestAtMost_iff (by decide) h (Nat.lt_succ_of_le hi)

theorem lenBase_lenSym_le {L : Nat} (h : 3 ≤ L) (h' : L ≤ 258) : Rom.lenBase (lenSym L) ≤ L := by
  obtain rfl | hlt := Nat.eq_or_lt_of_le h'
  · exact Nat.le_refl 258
  · have h257 : L ≤ 257 := Nat.le_of_lt_succ hlt
    exact (le_lenSym_iff h h257 (lenSym_le h257)).mp le_rfl

theorem lenBase_succ_le : ∀ i < 27, Rom.lenBase (i + 1) ≤ Rom.lenBase i + 2 ^ Rom.lenExtra i := by decide

theorem length_offset_lt {L : Nat} (h : 3 ≤ L) (h' : L ≤ 258) :
    L - Rom.lenBase (lenSym L) < 2 ^ Rom.lenExtra (lenSym L) := by
  obtain rfl | hlt := Nat.eq_or_lt_of_le h'
  · decide
  · have h257 : L ≤ 257 := Nat.le_of_lt_succ hlt
    exact sub_base_lt_of_largest (width := fun i => 2 ^ Rom.lenExtra i) (lenSym_le h257)
      (fun i hi => (le_lenSym_iff h h257 hi).mpr) lenBase_succ_le (lenBase_lenSym_le h h')
      (Nat.lt_of_lt_of_le hlt (by decide))

/-! ### Distances -/

theorem distSym_le (D : Nat) : distSym D ≤ 29 := largestAtMost_le D

theorem le_distSym_iff {D j : Nat} (h : 1 ≤ D) (hj : j ≤ 29) : j ≤ distSym D ↔ Rom.distBase j ≤ D :=
  le_largestAtMost_iff (table := Rom.distBases) (by decide) h (Nat.lt_succ_of_le hj)

theorem distBase_distSym_le {D : Nat} (h : 1 ≤ D) : Rom.distBase (distSym D) ≤ D :=
  (le_distSym_iff h (distSym_le D)).mp le_rfl

theorem distBase_succ_le : ∀ j < 29, Rom.distBase (j + 1) ≤ Rom.distBase j + 2 ^ Rom.distExtra j := by decide

theorem distance_offset_lt {D : Nat} (h : 1 ≤ D) (h' : D ≤ 32768) :
    D - Rom.distBase (distSym D) < 2 ^ Rom.distExtra (distSym D) :=
  sub_base_lt_of_largest (width := fun j => 2 ^ Rom.distExtra j) (distSym_le D) (fun j hj => (le_distSym_iff h hj).mpr)
    distBase_succ_le (distBase_distSym_le h) (Nat.lt_of_le_of_lt h' (by decide))

/-- Settles O13: the selected symbol is the largest whose base is at most the value, and the ranges of the tables adjoin. -/
theorem symbolSelectionFindsTheRange : Obligations.SymbolSelectionFindsTheRange := by
  refine ⟨lenSym_maxMatch, fun L h h' => ?_, fun L h h' => ⟨lenBase_lenSym_le h h', length_offset_lt h h'⟩,
    fun D h h' => ?_, by decide⟩
  · exact ⟨lenSym_le h', lenBase_lenSym_le h (by omega), fun i hi => (le_lenSym_iff h h' hi).mpr⟩
  · exact ⟨distSym_le D, distBase_distSym_le h, fun j hj => (le_distSym_iff h hj).mpr, distance_offset_lt h h'⟩

end Sys2Proof.Machine
end

section
/-! PROOFS. The matcher (42_matcher.md R171 to R174): the fold of `FindMatch` keeps the nearest of the longest matches among the
distances it has examined, and a number of bytes is at most `MatchLen` exactly when that many bytes match. -/

namespace Sys2Proof.Machine

/-! ### The match length -/

theorem le_commonLength_iff {cap L : Nat} {xs ys : List Byte} :
    L ≤ commonLength cap xs ys ↔ L ≤ cap ∧ L ≤ ys.length ∧ ∀ k, k < L → xs[k]? = ys[k]? := by
  induction L generalizing cap xs ys with
  | zero => simp
  | succ L ih =>
    cases cap with
    | zero => simp [commonLength]
    | succ cap =>
      cases ys with
      | nil => simp [commonLength]
      | cons y ys =>
        rw [Nat.forall_lt_succ_left]
        cases xs with
        | nil => simp [commonLength]
        | cons x xs =>
          by_cases hxy : x = y
          · simp [commonLength, hxy, ih]
          · simp [commonLength, hxy]

theorem le_matchLen_iff {input : List Byte} {p d L : Nat} (hp : p ≤ input.length) :
    L ≤ matchLen input p d ↔ Ref.matchAt input p d L := by
  have hend : L ≤ input.length - p ↔ p + L ≤ input.length := by omega
  simp only [matchLen, Ref.matchAt, le_commonLength_iff, List.length_drop, List.getElem?_drop, hend, Rom.maxMatch]

theorem matchLen_le_maxMatch (input : List Byte) (p d : Nat) : matchLen input p d ≤ Rom.maxMatch :=
  (le_commonLength_iff.mp le_rfl).1

/-! ### The search -/

/-- The search of R172 over the distances `1` to `n`, for any measure of the match at a distance. -/
def searchTo (len : Nat → Nat) (n : Nat) : Nat × Nat :=
  (List.range n).foldl (fun best k => if best.1 < len (k + 1) then (len (k + 1), k + 1) else best) (0, 0)

theorem bestMatch_eq_searchTo (input : List Byte) (p : Nat) :
    bestMatch input p = searchTo (matchLen input p) (min p Rom.windowSize) := rfl

theorem searchTo_succ (len : Nat → Nat) (n : Nat) :
    searchTo len (n + 1) = if (searchTo len n).1 < len (n + 1) then (len (n + 1), n + 1) else searchTo len n := by
  rw [searchTo, List.range_succ, List.foldl_append]
  rfl

/-- Of the distances `1` to `n`, `best` holds the greatest length and the smallest distance that has it; the distance is 0
where every length is. -/
structure NearestLongest (len : Nat → Nat) (n : Nat) (best : Nat × Nat) : Prop where
  longest : ∀ d, 1 ≤ d → d ≤ n → len d ≤ best.1
  nearest : ∀ d, 1 ≤ d → d < best.2 → len d < best.1
  dist_le : best.2 ≤ n
  attained : best = (0, 0) ∨ 1 ≤ best.2 ∧ len best.2 = best.1

theorem searchTo_nearestLongest (len : Nat → Nat) (n : Nat) : NearestLongest len n (searchTo len n) := by
  induction n with
  | zero => exact ⟨fun d h h' => by omega, fun d _ h => absurd h (Nat.not_lt_zero d), le_rfl, .inl rfl⟩
  | succ n ih =>
    obtain ⟨hlongest, hnearest, hdist, hattained⟩ := ih
    rw [searchTo_succ]
    split
    next hlt =>
      have hshorter (d : Nat) (h : 1 ≤ d) (h' : d < n + 1) : len d < len (n + 1) :=
        (hlongest d h (Nat.le_of_lt_succ h')).trans_lt hlt
      refine ⟨fun d h h' => ?_, hshorter, le_rfl, .inr ⟨Nat.succ_pos n, rfl⟩⟩
      obtain rfl | hd := Nat.eq_or_lt_of_le h'
      · exact le_rfl
      · exact (hshorter d h hd).le
    next hge =>
      refine ⟨fun d h h' => ?_, hnearest, Nat.le_succ_of_le hdist, hattained⟩
      obtain rfl | hd := Nat.eq_or_lt_of_le h'
      · exact Nat.le_of_not_lt hge
      · exact hlongest d h (Nat.le_of_lt_succ hd)

theorem bestMatch_nearestLongest (input : List Byte) (p : Nat) :
    NearestLongest (matchLen input p) (min p 32768) (bestMatch input p) :=
  searchTo_nearestLongest _ _

theorem bestMatch_length_le (input : List Byte) (p : Nat) : (bestMatch input p).1 ≤ 258 := by
  obtain hnone | ⟨-, hlen⟩ := (bestMatch_nearestLongest input p).attained
  · rw [hnone]
    exact Nat.zero_le 258
  · rw [← hlen]
    exact matchLen_le_maxMatch input p _

theorem bestMatch_bestAt {input : List Byte} {p : Nat} (hp : p ≤ input.length) (h : 3 ≤ (bestMatch input p).1) :
    Ref.bestAt input p (bestMatch input p).2 (bestMatch input p).1 := by
  obtain ⟨hlongest, hnearest, hdist, hattained⟩ := bestMatch_nearestLongest input p
  obtain hnone | ⟨hpos, hlen⟩ := hattained
  · simp [hnone] at h
  · refine ⟨h, hpos, hdist, (le_matchLen_iff hp).mp hlen.ge, fun d L hd hd' hmatch => ?_, fun d hd hd' hmatch => ?_⟩
    · exact ((le_matchLen_iff hp).mpr hmatch).trans (hlongest d hd hd')
    · exact ((le_matchLen_iff hp).mpr hmatch).not_gt (hnearest d hd hd')

theorem bestMatch_noMatchAt {input : List Byte} {p : Nat} (hp : p ≤ input.length) (h : (bestMatch input p).1 < 3) :
    Ref.noMatchAt input p := fun d _ hd hd' hmatch =>
  (((le_matchLen_iff hp).mpr hmatch).trans ((bestMatch_nearestLongest input p).longest d hd hd')).trans_lt h

/-! ### FindMatch -/

theorem length_bounds_of_bestAt {input : List Byte} {p d L : Nat} (h : Ref.bestAt input p d L) :
    L ≤ 258 ∧ L ≤ input.length - p := by
  obtain ⟨-, -, -, ⟨hmax, hend, -⟩, -⟩ := h
  exact ⟨hmax, Nat.le_sub_of_add_le' hend⟩

@[simp] theorem length_input (s : State) : s.input.length = s.inLen := Memory.length_bytes _ _ _

theorem noMatchAt_of_near_end {input : List Byte} {p : Nat} (h : input.length - p < 3) : Ref.noMatchAt input p := by
  intro d L _ _ ⟨_, hend, _⟩
  omega

theorem findMatch_of_near_end {s : State} {p : Nat} (h : s.inLen - p < Rom.minMatch) :
    findMatch p s = { s with bestLen := 0#9, bestDist := 0#16 } := by
  rw [findMatch, if_pos h]

theorem findMatch_bestLen_toNat {s : State} {p : Nat} (h : ¬ s.inLen - p < Rom.minMatch) :
    (findMatch p s).bestLen.toNat = (bestMatch s.input p).1 := by
  have hle := bestMatch_length_le s.input p
  rw [findMatch, if_neg h, BitVec.toNat_ofNat, Nat.mod_eq_of_lt (by omega)]

theorem findMatch_bestDist_toNat {s : State} {p : Nat} (h : ¬ s.inLen - p < Rom.minMatch) :
    (findMatch p s).bestDist.toNat = (bestMatch s.input p).2 := by
  have hle := (bestMatch_nearestLongest s.input p).dist_le
  rw [findMatch, if_neg h, BitVec.toNat_ofNat, Nat.mod_eq_of_lt (by omega)]

/-- Settles O47: near the end of the input nothing is found and nothing can match; elsewhere the two registers hold the pair of
the search, which is the nearest of the longest matches. -/
theorem findMatchIsLongestAndNearest : Obligations.FindMatchIsLongestAndNearest := by
  intro s p hp
  have hle : p ≤ s.input.length := (length_input s).symm ▸ hp.le
  refine ⟨rfl, ?_⟩
  by_cases hend : s.inLen - p < Rom.minMatch
  · rw [findMatch_of_near_end hend]
    exact ⟨fun h => absurd h (Nat.not_succ_le_zero 2), fun _ => noMatchAt_of_near_end (by rwa [length_input])⟩
  · rw [findMatch_bestLen_toNat hend, findMatch_bestDist_toNat hend]
    refine ⟨fun h => ?_, bestMatch_noMatchAt hle⟩
    have hbest := bestMatch_bestAt hle h
    exact ⟨hbest, length_input s ▸ length_bounds_of_bestAt hbest⟩

end Sys2Proof.Machine
end

section
/-! PROOFS. An empty bit writer that is given whole bytes appends them (40_bitstream.md R130, R131), and so level 0 of the encoder
writes the stored blocks of its input and nothing else (43_deflate_encoder.md R187, R188). -/

namespace Sys2Proof

/-! ### The bits of whole bytes -/

theorem byteBits_eq_map_getLsbD (x : Byte) : byteBits x = (List.range 8).map x.getLsbD := by
  rw [byteBits, lsbBits_eq_map_testBit]
  exact List.map_congr_left fun k _ => BitVec.testBit_toNat x

theorem bytesBits_append (xs ys : List Byte) : bytesBits (xs ++ ys) = bytesBits xs ++ bytesBits ys := List.flatMap_append

/-- A field of two bytes, low byte first. -/
theorem lsbBits_sixteen (v : Nat) : lsbBits 16 v = bytesBits [BitVec.ofNat 8 v, BitVec.ofNat 8 (v / 256)] := by
  rw [lsbBits_append 8 8, ← lsbBits_toNat_ofNat 8 v, ← lsbBits_toNat_ofNat 8 (v / 2 ^ 8)]
  simp [bytesBits, byteBits]

/-- The two bytes of NLEN (30_encoding.md R100). -/
theorem lsbBits_complement (v : Nat) :
    lsbBits 16 (v ^^^ 0xFFFF) = bytesBits [~~~ BitVec.ofNat 8 v, ~~~ BitVec.ofNat 8 (v / 256)] := by
  have hbyte (u : Nat) : BitVec.ofNat 8 (u ^^^ 0xFF) = ~~~ BitVec.ofNat 8 u := by
    rw [BitVec.ofNat_xor, BitVec.not_def, BitVec.xor_comm]; rfl
  have hlow : BitVec.ofNat 8 (v ^^^ 0xFFFF) = ~~~ BitVec.ofNat 8 v := by
    rw [← hbyte, BitVec.ofNat_xor, BitVec.ofNat_xor]; rfl
  have hhigh : (v ^^^ 0xFFFF) / 256 = v / 256 ^^^ 0xFF := Nat.xor_div_two_pow (n := 8)
  rw [lsbBits_sixteen, hlow, hhigh, hbyte]

/-- A stored block of the encoder begins on a byte boundary: five bits of padding follow its header (R100). -/
theorem bytesBits_storedBlockBytes (final : Bool) (data : List Byte) : bytesBits (Ref.storedBlockBytes final data) =
    (Ref.Block.stored (List.replicate 5 false) (data.length ^^^ 0xFFFF) data).bits final := by
  have hheader : byteBits (if final then 0x01#8 else 0x00#8) = [final, false, false] ++ List.replicate 5 false := by
    cases final <;> rfl
  rw [Ref.Block.bits, lsbBits_complement, lsbBits_sixteen, ← hheader, Ref.storedBlockBytes]
  simp only [bytesBits_cons, bytesBits_append, bytesBits_nil, List.append_assoc, List.nil_append]

end Sys2Proof

namespace Sys2Proof.Machine

/-! ### An empty writer -/

/-- No bit is pending (10_state.md R30). -/
def WriterEmpty (s : State) : Prop := s.wacc = 0#8 ∧ s.wcnt = 0#3

theorem WriterEmpty.append {s : State} (h : WriterEmpty s) (x : Byte) : WriterEmpty (append x s) := h

theorem WriterEmpty.appendAll {s : State} (h : WriterEmpty s) (xs : List Byte) : WriterEmpty (appendAll xs s) := by
  rw [appendAll_frame]; exact h

/-- The accumulator after the eighth bit of a byte (40_bitstream.md R131). -/
theorem or_bits_eq (x : Byte) :
    (BitVec.ofBool x[0]).setWidth 8 ||| (BitVec.ofBool x[1]).setWidth 8 <<< 1 |||
      (BitVec.ofBool x[2]).setWidth 8 <<< 2 ||| (BitVec.ofBool x[3]).setWidth 8 <<< 3 |||
      (BitVec.ofBool x[4]).setWidth 8 <<< 4 ||| (BitVec.ofBool x[5]).setWidth 8 <<< 5 |||
      (BitVec.ofBool x[6]).setWidth 8 <<< 6 ||| (BitVec.ofBool x[7]).setWidth 8 <<< 7 = x := by
  refine BitVec.eq_of_getLsbD_eq fun k hk => ?_
  interval_cases k <;> simp

/-- The eighth bit completes the byte. -/
theorem writeBitList_byteBits (x : Byte) {s : State} (h : WriterEmpty s) : writeBitList (byteBits x) s = append x s := by
  obtain ⟨hacc, hcnt⟩ := h
  have happend : append x s = { append x s with wacc := 0#8, wcnt := 0#3 } := by rw [← hacc, ← hcnt]; rfl
  rw [happend, byteBits_eq_map_getLsbD]
  simp [List.range_succ, writeBitList, writeBit, hacc, hcnt, append, or_bits_eq]

theorem writeBitList_bytesBits (xs : List Byte) {s : State} (h : WriterEmpty s) :
    writeBitList (bytesBits xs) s = appendAll xs s := by
  induction xs generalizing s with
  | nil => rfl
  | cons x xs ih =>
    rw [bytesBits_cons, writeBitList_append, writeBitList_byteBits x h, ih (h.append x), appendAll_cons]

/-- The header of a stored block, filled up to a byte. -/
theorem flush_storedHeader (final : Bool) {s : State} (h : WriterEmpty s) :
    flush (writeBits 0 2 (writeBits final.toNat 1 s)) = append (if final then 0x01#8 else 0x00#8) s := by
  obtain ⟨hacc, hcnt⟩ := h
  have happend (x : Byte) : append x s = { append x s with wacc := 0#8, wcnt := 0#3 } := by rw [← hacc, ← hcnt]; rfl
  rw [happend]
  cases final <;> simp [writeBits, lsbBits, writeBitList, writeBit, flush, hacc, hcnt, append]

theorem foldl_writeBits_eq_appendAll (xs : List Byte) {s : State} (h : WriterEmpty s) :
    xs.foldl (fun t x => writeBits x.toNat 8 t) s = appendAll xs s := by
  induction xs generalizing s with
  | nil => rfl
  | cons x xs ih =>
    have hbyte : writeBits x.toNat 8 s = append x s := writeBitList_byteBits x h
    rw [List.foldl_cons, hbyte, ih (h.append x), appendAll_cons]

theorem writeStoredBlock_eq_appendAll (final : Bool) (data : List Byte) {s : State} (h : WriterEmpty s) :
    writeStoredBlock final data s = appendAll (Ref.storedBlockBytes final data) s := by
  have hheader := h.append (if final then 0x01#8 else 0x00#8)
  rw [writeStoredBlock, flush_storedHeader final h, writeBits, writeBits, lsbBits_complement, lsbBits_sixteen,
    writeBitList_bytesBits _ hheader, writeBitList_bytesBits _ (hheader.appendAll _),
    foldl_writeBits_eq_appendAll _ ((hheader.appendAll _).appendAll _)]
  rfl

/-! ### The blocks of level 0 -/

theorem appendAll_ipos (xs : List Byte) (s : State) : (appendAll xs s).ipos = s.ipos := by rw [appendAll_frame]
theorem appendAll_inLen (xs : List Byte) (s : State) : (appendAll xs s).inLen = s.inLen := by rw [appendAll_frame]
theorem appendAll_inBuf (xs : List Byte) (s : State) : (appendAll xs s).inBuf = s.inBuf := by rw [appendAll_frame]

theorem appendAll_withIpos (xs : List Byte) (s : State) (n : Nat) :
    appendAll xs { s with ipos := n } = { appendAll xs s with ipos := n } := by
  induction xs generalizing s with
  | nil => rfl
  | cons x xs ih => exact ih (append x s)

theorem Memory.bytes_take (m : Memory) (a n k : Nat) : (m.bytes a n).take k = m.bytes a (min k n) := by
  rw [Memory.bytes, ← List.map_take, List.take_range, Memory.bytes]

/-- What `IN` holds from `ipos` on. -/
def State.inputLeft (s : State) : List Byte := s.inBuf.bytes s.ipos (s.inLen - s.ipos)

theorem length_inputLeft (s : State) : s.inputLeft.length = s.inLen - s.ipos := Memory.length_bytes _ _ _

/-- A block that is not the last takes the next 65535 bytes. -/
theorem storedRound_notLast {s : State} (h : WriterEmpty s) (hmore : 65535 < s.inLen - s.ipos) : storedRound s =
    { appendAll (Ref.storedBlockBytes false (s.inputLeft.take 65535)) s with ipos := s.ipos + 65535 } := by
  have hn : min Rom.storedMax (s.inLen - s.ipos) = 65535 := Nat.min_eq_left hmore.le
  have hlast : ¬ s.ipos + 65535 = s.inLen := by omega
  rw [storedRound, hn, decide_eq_false hlast, writeStoredBlock_eq_appendAll _ _ h, appendAll_ipos, State.inputLeft,
    Memory.bytes_take, Nat.min_eq_left hmore.le]

/-- The last block takes the rest of the input. -/
theorem storedRound_last {s : State} (h : WriterEmpty s) (hpos : s.ipos ≤ s.inLen) (hlast : s.inLen - s.ipos ≤ 65535) :
    storedRound s = { appendAll (Ref.storedBlockBytes true s.inputLeft) s with ipos := s.inLen } := by
  have hn : min Rom.storedMax (s.inLen - s.ipos) = s.inLen - s.ipos := Nat.min_eq_right hlast
  rw [storedRound, hn, Nat.add_sub_cancel' hpos, decide_eq_true rfl, writeStoredBlock_eq_appendAll _ _ h, appendAll_ipos,
    Nat.add_sub_cancel' hpos, State.inputLeft]

theorem storedBlocks_last {k : Nat} {data : List Byte} (h : data.length ≤ 65535) :
    Ref.storedBlocks k data = Ref.storedBlockBytes true data := by
  cases k with
  | zero => rfl
  | succ k => rw [Ref.storedBlocks, if_pos h]

theorem storedBlocks_more {k : Nat} {data : List Byte} (h : 65535 < data.length) : Ref.storedBlocks (k + 1) data =
    Ref.storedBlockBytes false (data.take 65535) ++ Ref.storedBlocks k (data.drop 65535) := by
  rw [Ref.storedBlocks, if_neg (Nat.not_le.2 h)]

/-- The loop of R187 writes the blocks of what is left of the input, `fuel` rounds and `k` blocks more than one being enough. -/
theorem compressStoredLoop_eq (fuel k : Nat) {s : State} (h : WriterEmpty s) (hpos : s.ipos ≤ s.inLen)
    (hfuel : s.inLen - s.ipos ≤ 65535 * (fuel + 1)) (hk : s.inLen - s.ipos ≤ 65535 * (k + 1)) :
    compressStoredLoop (fuel + 1) s = { appendAll (Ref.storedBlocks k s.inputLeft) s with ipos := s.inLen } := by
  induction fuel generalizing s k with
  | zero =>
    rw [compressStoredLoop_succ, if_pos (by rw [Rom.storedMax]; omega), storedRound_last h hpos hfuel,
      storedBlocks_last (by rwa [length_inputLeft])]
  | succ fuel ih =>
    by_cases hlast : s.inLen - s.ipos ≤ 65535
    · rw [compressStoredLoop_succ, if_pos (by rw [Rom.storedMax]; omega), storedRound_last h hpos hlast,
        storedBlocks_last (by rwa [length_inputLeft])]
    · obtain ⟨k, rfl⟩ : ∃ j, k = j + 1 := Nat.exists_eq_add_one.2 (by omega)
      have hmore : 65535 < s.inLen - s.ipos := Nat.lt_of_not_le hlast
      have hround := storedRound_notLast h hmore
      have hlen : (storedRound s).inLen = s.inLen := by rw [hround, appendAll_inLen]
      have hnext : (storedRound s).ipos = s.ipos + 65535 := by rw [hround]
      have hleft : (storedRound s).inputLeft = s.inputLeft.drop 65535 := by
        rw [State.inputLeft, hlen, hnext, hround, appendAll_inBuf, State.inputLeft, Memory.bytes_drop, Nat.sub_add_eq]
      have hempty : WriterEmpty (storedRound s) := by rw [hround]; exact h.appendAll _
      rw [compressStoredLoop_succ, if_neg (by rw [Rom.storedMax]; omega), ih k hempty (by omega) (by omega) (by omega), hlen,
        hleft, storedBlocks_more (by rwa [length_inputLeft]), appendAll_append, hround, appendAll_withIpos]

/-- The writer of a level 0 command that has just started. -/
theorem compressStored_eq {s : State} (h : WriterEmpty s) :
    compressStored s = { appendAll (Ref.storedStream s.input) s with ipos := s.inLen } := by
  have hblocks : s.inLen ≤ 65535 * (s.inLen / 65535 + 1) := by omega
  rw [compressStored, Rom.storedMax, compressStoredLoop_eq _ s.input.length (s := { s with ipos := 0 }) h (Nat.zero_le _)
    hblocks (by rw [length_input]; dsimp only; omega), appendAll_withIpos]
  rfl

theorem length_storedBlockBytes (final : Bool) (data : List Byte) :
    (Ref.storedBlockBytes final data).length = data.length + 5 := by
  rw [Ref.storedBlockBytes, List.length_append, Nat.add_comm]; rfl

/-- Five bytes a block (43_deflate_encoder.md R196). -/
theorem length_storedBlocks {k : Nat} {data : List Byte} (hk : data.length ≤ 65535 * (k + 1)) :
    (Ref.storedBlocks k data).length = data.length + 5 * max 1 ((data.length + 65534) / 65535) := by
  induction k generalizing data with
  | zero => rw [Ref.storedBlocks, length_storedBlockBytes]; omega
  | succ k ih =>
    by_cases hlast : data.length ≤ 65535
    · rw [storedBlocks_last hlast, length_storedBlockBytes]; omega
    · have hmore : 65535 < data.length := Nat.lt_of_not_le hlast
      have hrest := ih (data := data.drop 65535) (by rw [List.length_drop]; omega)
      rw [storedBlocks_more hmore, List.length_append, length_storedBlockBytes, hrest, List.length_take, List.length_drop]
      omega

/-- Settles O48: the writer is empty before and after every block, so the command appends the bytes of the blocks in turn. -/
theorem compressLevelZeroStores : Obligations.CompressLevelZeroStores := by
  intro s
  have hbody : compressBody 0#4 (start s) =
      { appendAll (Ref.storedStream s.input) (start s) with ipos := s.inLen } := by
    rw [compressBody, if_pos rfl, compressStored_eq (s := start s) ⟨rfl, rfl⟩]; rfl
  have hout : (appendAll (Ref.storedStream s.input) (start s)).outBuf = Memory.ofBytes (Ref.storedStream s.input) :=
    appendAll_outBuf (ys := []) rfl rfl _
  refine ⟨?_, ?_⟩
  · show execCompress 0#4 s = _
    rw [execCompress, hbody, appendAll_frame, hout, start_outLen, Nat.zero_add]
    rfl
  · rw [Ref.storedStream, length_storedBlocks (by omega), length_input]

end Sys2Proof.Machine
end

section
/-! PROOFS. The fixed block of levels 1 to 9 (43_deflate_encoder.md R189 to R195): each round of its loop writes the bits of one
symbol of the greedy parse and moves the window past the bytes the symbol covers. -/

namespace Sys2Proof.Ref

/-- How many bytes of the input a symbol covers (R190). -/
def Symbol.size : Symbol → Nat
  | .literal _ => 1
  | .pair len _ => len

/-- The symbol is the greedy one at position `p` (R189). -/
def Symbol.greedyAt (input : List Byte) (p : Nat) : Symbol → Prop
  | .literal x => input[p]? = some x ∧ noMatchAt input p
  | .pair len dist => bestAt input p dist len

theorem parses_cons (input : List Byte) (p : Nat) (sym : Symbol) (rest : List Symbol) :
    parses input p (sym :: rest) ↔ sym.greedyAt input p ∧ parses input (p + sym.size) rest := by
  cases sym with
  | literal x => exact and_assoc.symm
  | pair len dist => exact Iff.rfl

/-- A greedy symbol covers at least one byte, and only bytes of the input. -/
theorem Symbol.greedyAt.size_bounds {sym : Symbol} {input : List Byte} {p : Nat} (h : sym.greedyAt input p) :
    0 < sym.size ∧ p + sym.size ≤ input.length := by
  cases sym with
  | literal x => exact ⟨Nat.one_pos, (List.getElem?_eq_some_iff.1 h.1).1⟩
  | pair len dist =>
    obtain ⟨hlen, -, -, ⟨-, hend, -⟩, -⟩ := h
    exact ⟨Nat.lt_of_lt_of_le (by decide) hlen, hend⟩

end Sys2Proof.Ref

namespace Sys2Proof.Machine

/-! ### One symbol -/

theorem emitMatch_eq (len dist : Nat) (s : State) : emitMatch len dist s = writeBitList (Ref.Symbol.pair len dist).bits s := by
  simp only [Ref.Symbol.bits, writeBitList_append]
  rfl

theorem getElem?_input {s : State} {p : Nat} (hp : p < s.inLen) : s.input[p]? = some (s.inBuf.read p) := by
  simp [State.input, Memory.bytes, hp]

/-- A round writes the greedy symbol at `ipos` and moves the window past it. -/
theorem symbolRound_eq {s : State} (hpos : s.ipos < s.inLen) : ∃ sym : Ref.Symbol, sym.greedyAt s.input s.ipos ∧
    symbolRound s = advance sym.size (writeBitList sym.bits (findMatch s.ipos s)) := by
  obtain ⟨-, hmatch, hnone⟩ := findMatchIsLongestAndNearest s s.ipos hpos
  unfold symbolRound
  dsimp only
  split
  next hlen =>
    exact ⟨.pair (findMatch s.ipos s).bestLen.toNat (findMatch s.ipos s).bestDist.toNat, (hmatch hlen).1,
      by rw [emitMatch_eq]; rfl⟩
  next hlen => exact ⟨.literal (s.inBuf.read s.ipos), ⟨getElem?_input hpos, hnone (Nat.lt_of_not_le hlen)⟩, rfl⟩

theorem advance_succ (n : Nat) (s : State) :
    advance (n + 1) s = advance n { winPush (s.inBuf.read s.ipos) s with ipos := s.ipos + 1 } := rfl

/-- `Advance` moves `ipos` and the window (R190). -/
theorem advance_frame (n : Nat) (s : State) : advance n s = { s with
    ipos := s.ipos + n, win := (advance n s).win, wptr := (advance n s).wptr, wfill := (advance n s).wfill } := by
  induction n generalizing s with
  | zero => rfl
  | succ n ih =>
    rw [advance_succ, ih]
    simp only [winPush, Nat.add_assoc, Nat.add_comm 1]

/-! ### What the loop writes -/

/-- From `s` the encoder of a fixed block has come to `t` by writing `bits`: beside the writer it has moved `ipos`, the window and
the matcher's registers only. -/
structure Emits (bits : List Bool) (s t : State) : Prop where
  ok : WriterOk t
  written : Ref.writtenBits t = Ref.writtenBits s ++ bits
  only : t = { s with
    outBuf := t.outBuf, outLen := t.outLen, wacc := t.wacc, wcnt := t.wcnt, ipos := t.ipos, win := t.win, wptr := t.wptr,
    wfill := t.wfill, bestLen := t.bestLen, bestDist := t.bestDist }

theorem emits_nil {s : State} (h : WriterOk s) : Emits [] s s := ⟨h, (List.append_nil _).symm, rfl⟩

theorem Emits.append {xs ys : List Bool} {s t u : State} (h : Emits xs s t) (h' : Emits ys t u) : Emits (xs ++ ys) s u where
  ok := h'.ok
  written := by rw [h'.written, h.written, List.append_assoc]
  only := by rw [h'.only, h.only]

theorem Writes.emits {bits : List Bool} {s t : State} (h : Writes bits s t) : Emits bits s t :=
  ⟨h.ok, h.written, by rw [h.only]⟩

theorem Emits.input {bits : List Bool} {s t : State} (h : Emits bits s t) : t.inLen = s.inLen ∧ t.input = s.input := by
  rw [h.only]; exact ⟨rfl, rfl⟩

theorem symbolRound_emits {s : State} (h : WriterOk s) (hpos : s.ipos < s.inLen) : ∃ sym : Ref.Symbol,
    sym.greedyAt s.input s.ipos ∧ Emits sym.bits s (symbolRound s) ∧ (symbolRound s).ipos = s.ipos + sym.size := by
  obtain ⟨sym, hsym, hround⟩ := symbolRound_eq hpos
  have hwrites := writes_writeBitList sym.bits (s := findMatch s.ipos s) ⟨h.pending, h.canonical⟩
  refine ⟨sym, hsym, ⟨?_, ?_, ?_⟩, ?_⟩
  · rw [hround, advance_frame]; exact ⟨hwrites.ok.pending, hwrites.ok.canonical⟩
  · rw [hround, advance_frame]; exact hwrites.written
  · rw [hround, advance_frame, hwrites.only]; rfl
  · rw [hround, advance_frame, hwrites.only]; rfl

/-- At the end of the input the parse is done. -/
theorem emits_endOfInput {s : State} (h : WriterOk s) (hend : s.ipos = s.inLen) : ∃ symbols,
    Ref.parses s.input s.ipos symbols ∧ Emits (symbols.flatMap Ref.Symbol.bits) s s ∧ s.ipos = s.inLen :=
  ⟨[], hend.trans (length_input s).symm, emits_nil h, hend⟩

/-- The loop of R189 writes the greedy parse of what is left of the input, `fuel` being enough for a symbol a byte. -/
theorem compressFixedLoop_emits (fuel : Nat) {s : State} (h : WriterOk s) (hpos : s.ipos ≤ s.inLen)
    (hfuel : s.inLen - s.ipos ≤ fuel) : ∃ symbols, Ref.parses s.input s.ipos symbols ∧
      Emits (symbols.flatMap Ref.Symbol.bits) s (compressFixedLoop fuel s) ∧ (compressFixedLoop fuel s).ipos = s.inLen := by
  induction fuel generalizing s with
  | zero => exact emits_endOfInput h (by omega)
  | succ fuel ih =>
    rw [compressFixedLoop_succ]
    split
    next hlt =>
      obtain ⟨sym, hsym, hemits, hnext⟩ := symbolRound_emits h hlt
      obtain ⟨hlen, hinput⟩ := hemits.input
      obtain ⟨hsize, hend⟩ := hsym.size_bounds
      rw [length_input] at hend
      obtain ⟨symbols, hparse, hloop, hdone⟩ := ih hemits.ok (by omega) (by omega)
      rw [hinput, hnext] at hparse
      exact ⟨sym :: symbols, (Ref.parses_cons ..).2 ⟨hsym, hparse⟩, hemits.append hloop, hdone.trans hlen⟩
    next => exact emits_endOfInput h (by omega)

/-! ### The block -/

/-- The cursor of the input and the window, as the block's loop begins with them (R189). -/
def atInputStart (s : State) : State := { s with ipos := 0, wptr := 0#15, wfill := 0#16 }

theorem Emits.atInputStart {bits : List Bool} {s t : State} (h : Emits bits s t) : Emits bits s (atInputStart t) :=
  ⟨⟨h.ok.pending, h.ok.canonical⟩, h.written, by rw [h.only]; rfl⟩

theorem encodes_atInputStart (s : State) : Encodes s (atInputStart s) :=
  .tail (.single .emptyWindow) (.registers (t := atInputStart s) rfl)

/-- The header of the block, written; the loop comes next. -/
def fixedHeader (s : State) : State := atInputStart (writeBitList [true, true, false] s)

theorem fixedHeader_ipos (s : State) : (fixedHeader s).ipos = 0 := rfl

theorem compressFixed_eq (s : State) : compressFixed s =
    flush (writeBitList (litLenBits 256) (compressFixedLoop s.inLen (fixedHeader s))) := rfl

theorem fixedHeader_emits {s : State} (h : WriterOk s) : Emits [true, true, false] s (fixedHeader s) :=
  (writes_writeBitList [true, true, false] h).emits.atInputStart

theorem writerEmpty_of_flush {s : State} (h : WriterOk s) : WriterEmpty (flush s) := by
  have hpending : (flush s).wacc.toNat < 2 ^ (flush s).wcnt.toNat := (writes_flush h).ok.pending
  rw [flush_wcnt] at hpending
  exact ⟨BitVec.eq_of_toNat_eq (Nat.lt_one_iff.1 hpending), flush_wcnt s⟩

/-- The block is its header, the greedy parse, the end-of-block code and the padding of its last byte (R189 to R194). -/
theorem compressFixed_emits {s : State} (h : WriterOk s) : ∃ symbols pad, Ref.parses s.input 0 symbols ∧ pad < 8 ∧
    Emits ([true, true, false] ++ symbols.flatMap Ref.Symbol.bits ++ List.replicate 7 false ++ List.replicate pad false) s
      (compressFixed s) ∧
    WriterEmpty (compressFixed s) ∧ (compressFixed s).ipos = s.inLen := by
  have hheader := fixedHeader_emits h
  obtain ⟨hlen, hinput⟩ := hheader.input
  obtain ⟨symbols, hparse, hloop, hdone⟩ := compressFixedLoop_emits s.inLen hheader.ok
    (by rw [fixedHeader_ipos]; exact Nat.zero_le _) (by rw [hlen]; exact Nat.sub_le _ _)
  have heob := writes_writeBitList (litLenBits 256) hloop.ok
  have hflush := writes_flush heob.ok
  rw [hinput, fixedHeader_ipos] at hparse
  rw [compressFixed_eq]
  refine ⟨symbols, _, hparse, Nat.mod_lt _ (by decide), ((hheader.append hloop).append heob.emits).append hflush.emits,
    writerEmpty_of_flush heob.ok, ?_⟩
  rw [hflush.only, heob.only]
  exact hdone.trans hlen

/-- What `OUT` holds after a fixed block, where it was empty. -/
theorem bytesBits_output_of_emits {bits : List Bool} {s t : State} (h : Emits bits s t) (hlen : s.outLen = 0)
    (hs : WriterEmpty s) (ht : WriterEmpty t) : bytesBits t.output = bits := by
  have hempty : Ref.writtenBits s = [] := List.eq_nil_of_length_eq_zero (by simp [length_writtenBits, hlen, hs.2])
  have hwritten := h.written
  rwa [hempty, Ref.writtenBits, ht.2, List.nil_append, show lsbBits (0#3).toNat t.wacc.toNat = [] from rfl,
    List.append_nil] at hwritten

theorem start_writerOk (s : State) : WriterOk (start s) := writerOk_of_empty rfl rfl

theorem execCompress_fixed {level : BitVec 4} (hlevel : level ≠ 0#4) (s : State) :
    exec (.compress level) s = .next (succeed (compressFixed (start s))) := by
  show execCompress level s = _
  rw [execCompress, compressBody, if_neg hlevel]

/-! ### The window -/

/-- The window while `CompressFixed` runs (20_memory.md R65): the bytes up to `ipos`, and where none has come yet the contents
`old` from before the command. -/
structure EncoderWindow (old : Memory) (s : State) : Prop where
  data : s.dataOk
  tracks : s.windowTracks s.ipos s.inBuf.read
  beyond : ∀ a, min s.ipos 32768 ≤ a → s.win.read a = old.read a

theorem EncoderWindow.push {old : Memory} {s : State} (h : EncoderWindow old s) :
    EncoderWindow old { winPush (s.inBuf.read s.ipos) s with ipos := s.ipos + 1 } where
  data := winPush_dataOk h.data _
  tracks := winPush_windowTracks (bytes' := s.inBuf.read) ((memoriesOk_iff s).1 h.data.1).2.2.1 h.tracks fun _ _ => rfl
  beyond a ha := by
    have hptr := h.tracks.2.1
    dsimp only at ha
    have hother : a ≠ s.wptr.toNat := by omega
    exact (Memory.read_write_other _ hother).trans (h.beyond a (by omega))

theorem EncoderWindow.advance {old : Memory} {s : State} (h : EncoderWindow old s) (n : Nat) :
    EncoderWindow old (advance n s) := by
  induction n generalizing s with
  | zero => exact h
  | succ n ih => exact ih h.push

/-- Writing bits and searching for a match leave the window alone. -/
theorem EncoderWindow.congr {old : Memory} {s t : State} (h : EncoderWindow old s) (hencodes : Encodes s t)
    (hframe : t = { s with
      outBuf := t.outBuf, outLen := t.outLen, wacc := t.wacc, wcnt := t.wcnt, bestLen := t.bestLen,
      bestDist := t.bestDist }) : EncoderWindow old t := by
  have hdata := hencodes.dataOk h.data
  rw [hframe] at hdata ⊢
  exact ⟨hdata, h.tracks, h.beyond⟩

theorem EncoderWindow.symbolRound {old : Memory} {s : State} (h : EncoderWindow old s) (hpos : s.ipos < s.inLen) :
    EncoderWindow old (symbolRound s) := by
  obtain ⟨sym, -, hround⟩ := symbolRound_eq hpos
  rw [hround]
  refine (h.congr ((encodes_findMatch s.ipos s).trans (encodes_writeBitList sym.bits _)) ?_).advance _
  rw [onlyWriter_writeBitList sym.bits (findMatch s.ipos s)]
  rfl

theorem EncoderWindow.compressFixedLoop {old : Memory} (fuel : Nat) {s : State} (h : EncoderWindow old s) :
    EncoderWindow old (compressFixedLoop fuel s) := by
  induction fuel generalizing s with
  | zero => exact h
  | succ fuel ih =>
    rw [compressFixedLoop_succ]
    split
    next hlt => exact ih (h.symbolRound hlt)
    next => exact h

theorem atInputStart_window {s : State} (h : s.dataOk) : EncoderWindow s.win (atInputStart s) :=
  ⟨(encodes_atInputStart s).dataOk h, windowTracks_of_empty rfl rfl _, fun _ _ => rfl⟩

theorem fixedHeader_window {s : State} (h : s.dataOk) : EncoderWindow s.win (fixedHeader s) := by
  have hwin : (writeBitList [true, true, false] s).win = s.win := by rw [onlyWriter_writeBitList [true, true, false] s]
  rw [fixedHeader, ← hwin]
  exact atInputStart_window ((encodes_writeBitList [true, true, false] s).dataOk h)

theorem compressFixed_window {s : State} (h : s.dataOk) : EncoderWindow s.win (compressFixed s) := by
  have hloop := (fixedHeader_window h).compressFixedLoop s.inLen
  rw [compressFixed_eq]
  refine hloop.congr (.tail (encodes_writeBitList (litLenBits 256) _) .flush) ?_
  rw [onlyWriter_flush (writeBitList _ _), onlyWriter_writeBitList (litLenBits 256) (Machine.compressFixedLoop _ _)]

/-- START sets every register that has a range (49_host_interface.md R301). -/
theorem start_dataOk_of_memoriesOk {s : State} (h : s.memoriesOk = true) : (start s).dataOk :=
  ⟨start_memoriesOk h, (datapathOk_iff _).2 ⟨Nat.one_pos, (by decide : 1 < Rom.adlerMod), (by decide : 0 < Rom.adlerMod),
    Nat.zero_le _, Nat.zero_le _⟩⟩

/-- A canonical `OUT` that lists nothing at or beyond `OUT_LEN` is the memory of the output. -/
theorem outBuf_eq_ofBytes_output {s : State} (h : s.memoriesOk = true) : s.outBuf = Memory.ofBytes s.output := by
  obtain ⟨-, hwf, -, hbelow, -⟩ := (memoriesOk_iff s).1 h
  refine Memory.ext_read hwf (Memory.wf_ofBytes _) fun a => ?_
  rw [Memory.read_ofBytes]
  by_cases ha : a < s.outLen
  · simp [State.output, Memory.bytes, ha]
  · rw [Memory.read_beyond hbelow (Nat.le_of_not_lt ha), List.getD_eq_default]
    exact (Memory.length_bytes ..).trans_le (Nat.le_of_not_lt ha)

/-- Settles O49: the loop writes the greedy parse and keeps the window on the bytes it has passed; the level is not looked at but
for being 0. -/
theorem compressFixedWritesTheGreedyParse : Obligations.CompressFixedWritesTheGreedyParse := by
  intro s level hmem hlevel
  refine ⟨?_, fun level' hlevel' => by rw [execCompress_fixed hlevel', execCompress_fixed hlevel]⟩
  rw [execCompress_fixed hlevel]
  obtain ⟨symbols, pad, hparse, hpad, hemits, hempty, hdone⟩ := compressFixed_emits (start_writerOk s)
  have hwindow := compressFixed_window (start_dataOk_of_memoriesOk hmem)
  generalize compressFixed (start s) = u at *
  obtain ⟨hdata, ⟨hfill, -, hwinAt⟩, hbeyond⟩ := hwindow
  have hframe := hemits.only
  have hbuf : u.inBuf = s.inBuf := by rw [hframe]; rfl
  rw [hdone, start_inLen] at hfill hwinAt hbeyond
  rw [hbuf] at hwinAt
  rw [hempty.1, hempty.2, hdone] at hframe
  have hbits : bytesBits u.output = _ := bytesBits_output_of_emits hemits rfl ⟨rfl, rfl⟩ hempty
  exact ⟨succeed u, symbols, pad, rfl, hparse, hpad, hbits, outBuf_eq_ofBytes_output hdata.1, hfill, hwinAt, hbeyond,
    congrArg succeed hframe⟩

end Sys2Proof.Machine
end

section
/-! PROOFS. The DEFLATE decoder on a well-formed stream (44_deflate_decoder.md R213 to R220): a chain of rounds of its loop, one
for each element of the stream, produces what the stream expands to. -/

namespace Sys2Proof.Ref

/-- Only the last block of a stream has BFINAL 1 (30_encoding.md R98). -/
theorem streamBits_cons (b : Block) {bs : List Block} (h : bs ≠ []) : streamBits (b :: bs) = b.bits false ++ streamBits bs := by
  cases bs with
  | nil => exact absurd rfl h
  | cons b' bs => rfl

end Sys2Proof.Ref

namespace Sys2Proof.Machine

/-! ### Rounds of the decoder's loop -/

/-- One round of the loop of `inflate`. -/
def InflateRound (s t : State) : Prop := inflating s = true ∧ deflateStep s = .next t

/-- The loop has come from `s` to this state. -/
abbrev InflateRounds : State → State → Prop := Relation.ReflTransGen InflateRound

theorem InflateRounds.eq_of_ended {s t : State} (h : InflateRounds s t) (hs : inflating s = false) : s = t := by
  cases h.cases_head with
  | inl heq => exact heq
  | inr hround =>
    obtain ⟨u, ⟨hgoing, -⟩, -⟩ := hround
    exact absurd hgoing (by simp [hs])

/-- A chain of rounds that ends is the whole run: the loop's fuel is enough for it (R223). -/
theorem inflate_eq_of_rounds {s t : State} (hc : s.micro.readsBits = true) (h : InflateRounds s t)
    (hend : inflating t = false) : inflate s = .next t := by
  obtain ⟨-, u, hrun, -, hu⟩ := inflate_reaches hc
  have hrounds : InflateRounds u t := by
    refine runWhile_keeps (P := fun v => InflateRounds v t) (fun v w hgoing hv hw => ?_) hrun h
    cases hv.cases_head with
    | inl heq => exact absurd (heq ▸ hgoing) (by simp [hend])
    | inr hround =>
      obtain ⟨w', ⟨-, hw'⟩, hrest⟩ := hround
      cases hw.symm.trans hw'
      exact hrest
  have hended : inflating u = false := by
    rw [inflating_eq]
    cases hb : u.busy with
    | false => rfl
    | true => rw [(hu hb).2]; rfl
  rw [hrun, hrounds.eq_of_ended hended]

/-- No round changes who called the decoder, or the output bound. -/
theorem InflateRound.kept {s t : State} (h : InflateRound s t) : t.zlib = s.zlib ∧ t.maxOut = s.maxOut := by
  obtain ⟨hgoing, hstep⟩ := h
  rw [inflating_eq, Bool.and_eq_true] at hgoing
  obtain ⟨u, hu, -, hend, hzlib⟩ := deflate_decoderEnd hgoing.2
  cases hstep.symm.trans hu
  exact ⟨hzlib, ((hostInputs_eq_iff _ _).1 hend.hostInputs).2.2.1⟩

theorem InflateRounds.kept {s t : State} (h : InflateRounds s t) : t.zlib = s.zlib ∧ t.maxOut = s.maxOut := by
  induction h with
  | refl => exact ⟨rfl, rfl⟩
  | tail _ hround ih =>
    obtain ⟨hzlib, hmax⟩ := hround.kept
    exact ⟨hzlib.trans ih.1, hmax.trans ih.2⟩

/-! ### Reading an element -/

/-- The DEFLATE decoder runs, `c` says what it reads next, `bits` are the bits it has not read, and `out` is its output so far. -/
structure ReadyAt (c : StreamCtx) (bits : List Bool) (out : List Byte) (s : State) : Prop where
  running : s.busy = true
  next : s.micro = c
  unread : readerBits s = bits
  canonical : s.outBuf.wf = true
  produced : s.output = out

theorem ReadyAt.outLen {c : StreamCtx} {bits : List Bool} {out : List Byte} {s : State} (h : ReadyAt c bits out s) :
    s.outLen = out.length := by
  rw [← h.produced, State.output, Memory.length_bytes]

/-- A byte of the output, where `CopyMatch` reads it (R219). -/
theorem ReadyAt.outBuf_read {c : StreamCtx} {bits : List Bool} {out : List Byte} {s : State} (h : ReadyAt c bits out s)
    {k : Nat} (hk : k < out.length) : s.outBuf.read k = out.getD k 0 := by
  have hk' : k < s.outLen := h.outLen ▸ hk
  rw [← h.produced]
  simp [State.output, Memory.bytes, hk']

/-- The element at the front of the unread bits is read, and the round goes on with its meaning. -/
theorem ReadyAt.read {c : StreamCtx} {i : Instr} {rest : List Bool} {out : List Byte} {s : State}
    (h : ReadyAt c (encode i ++ rest) out s) (hc : c.readsBits = true) (hi : i.ctx = some c) (hwf : i.wf = true)
    (hpad : ∀ pad len nlen data, i = .storedBody pad len nlen data → pad.length = padBits s.rbit.toNat) :
    ReadyAt c rest out (advanceBits (encode i).length s) ∧
      ∀ t, deflateElement i (advanceBits (encode i).length s) = .next t → InflateRound s t := by
  have hreads : s.micro.readsBits = true := h.next ▸ hc
  have hunread : unreadBits s = encode i ++ rest := (unreadBits_of_readsBits hreads).trans h.unread
  have hdecode : decodeStream s.micro s.rbit.toNat (unreadBits s) = .ok (i, rest) := by
    rw [hunread, h.next]
    refine decodeStream_encode _ hwf hi hpad fun hnone => ?_
    subst hnone
    cases hi
    cases hc
  have hfetch : fetch s = .element i (advanceBits (encode i).length s) := by
    rw [fetch, hdecode]
    dsimp only
    rw [hunread, List.length_append, Nat.add_sub_cancel, moveCursor_of_readsBits hreads]
  refine ⟨⟨h.running, h.next, ?_, h.canonical, h.produced⟩, fun t ht => ⟨?_, ?_⟩⟩
  · rw [readerBits_advanceBits, h.unread, List.drop_left]
  · rw [inflating_eq, h.running, hreads]; rfl
  · rw [deflateStep, hfetch]; exact ht

/-- Only a stored body depends on where in its byte it begins. -/
theorem ReadyAt.readElement {c : StreamCtx} {i : Instr} {rest : List Bool} {out : List Byte} {s : State}
    (h : ReadyAt c (encode i ++ rest) out s) (hc : c.readsBits = true) (hbody : c ≠ .storedBody) (hi : i.ctx = some c)
    (hwf : i.wf = true) : ReadyAt c rest out (advanceBits (encode i).length s) ∧
      ∀ t, deflateElement i (advanceBits (encode i).length s) = .next t → InflateRound s t := by
  refine h.read hc hi hwf fun pad len nlen data heq => ?_
  subst heq
  cases hi
  exact absurd rfl hbody

/-! ### Producing bytes -/

/-- `MAXOUT` allows an output of `n` bytes (10_state.md R25). -/
def State.roomFor (s : State) (n : Nat) : Prop := s.maxOut = 0 ∨ n ≤ s.maxOut

theorem State.roomFor.mono {s : State} {m n : Nat} (h : s.roomFor n) (hle : m ≤ n) : s.roomFor m :=
  h.imp_right hle.trans

theorem InflateRounds.roomFor {s t : State} {n : Nat} (h : InflateRounds s t) (hs : s.roomFor n) : t.roomFor n := by
  rw [State.roomFor, h.kept.2]; exact hs

theorem ReadyAt.push {c : StreamCtx} {bits : List Bool} {out : List Byte} {s : State} (h : ReadyAt c bits out s) (x : Byte) :
    ReadyAt c bits (out ++ [x]) (winPush x (append x s)) :=
  ⟨h.running, h.next, h.unread, Memory.wf_write h.canonical _ _, h.produced ▸ output_append h.canonical x⟩

theorem ReadyAt.put {c : StreamCtx} {bits : List Bool} {out : List Byte} {s : State} (h : ReadyAt c bits out s)
    (hroom : s.roomFor (out.length + 1)) (x : Byte) : put x s = .ok (winPush x (append x s)) :=
  put_room (by rw [h.outLen]; exact hroom) x

theorem ReadyAt.putAll {c : StreamCtx} {bits : List Bool} {out : List Byte} (xs : List Byte) {s : State}
    (h : ReadyAt c bits out s) (hroom : s.roomFor (out.length + xs.length)) :
    ∃ t, putAll xs s = .ok t ∧ t.bfinal = s.bfinal ∧ ReadyAt c bits (out ++ xs) t := by
  induction xs generalizing out s with
  | nil => exact ⟨s, rfl, rfl, by rwa [List.append_nil]⟩
  | cons x xs ih =>
    rw [List.length_cons] at hroom
    have hroom' : (winPush x (append x s)).roomFor ((out ++ [x]).length + xs.length) :=
      State.roomFor.mono (s := s) hroom (by rw [List.length_append, List.length_singleton]; omega)
    obtain ⟨t, ht, hfinal, hready⟩ := ih (h.push x) hroom'
    rw [List.append_assoc, List.singleton_append] at hready
    exact ⟨t, by rw [putAll_cons, h.put (hroom.mono (by omega))]; exact ht, hfinal, hready⟩

theorem length_copyOut (n d : Nat) (out : List Byte) : (Ref.copyOut n d out).length = out.length + n := by
  induction n generalizing out with
  | zero => rfl
  | succ n ih => rw [Ref.copyOut, ih, List.length_append, List.length_singleton]; omega

theorem ReadyAt.copyBytes {c : StreamCtx} {bits : List Bool} {out : List Byte} (n : Nat) {d : Nat} {s : State}
    (h : ReadyAt c bits out s) (hpos : 1 ≤ d) (hd : d ≤ out.length) (hroom : s.roomFor (out.length + n)) :
    ∃ t, copyBytes n d s = .ok t ∧ t.bfinal = s.bfinal ∧ ReadyAt c bits (Ref.copyOut n d out) t := by
  induction n generalizing out s with
  | zero => exact ⟨s, rfl, rfl, h⟩
  | succ n ih =>
    have hbyte : s.outBuf.read (s.outLen - d) = out.getD (out.length - d) 0 := by
      rw [h.outLen]; exact h.outBuf_read (by omega)
    have hgrow (x : Byte) : (out ++ [x]).length = out.length + 1 := List.length_append
    obtain ⟨t, ht, hfinal, hready⟩ := ih (h.push (out.getD (out.length - d) 0)) (by rw [hgrow]; omega)
      (State.roomFor.mono (s := s) hroom (by rw [hgrow]; omega))
    exact ⟨t, by rw [copyBytes_succ, hbyte, h.put (hroom.mono (by omega))]; exact ht, hfinal, hready⟩

/-! ### Literals and matches -/

/-- The element of a literal (30_encoding.md R102). -/
def literalInstr (x : Byte) : Instr := if x.toNat ≤ 143 then .literal0To143 x else .literal144To255 x

theorem literalInstr_ctx (x : Byte) : (literalInstr x).ctx = some .litLen := by
  unfold literalInstr; split <;> rfl

theorem literalInstr_wf (x : Byte) : (literalInstr x).wf = true := by
  unfold literalInstr
  split
  next h => exact decide_eq_true h
  next h => exact decide_eq_true (Nat.lt_of_not_le h)

theorem encode_literalInstr (x : Byte) : encode (literalInstr x) = litLenBits x.toNat := by
  unfold literalInstr; split <;> rfl

theorem deflateElement_literalInstr (x : Byte) (s : State) :
    deflateElement (literalInstr x) s = answer (literalElement x s) := by
  unfold literalInstr; split <;> rfl

/-- The meaning of a length element, whatever its row of R156: its field is as wide as the row's extra bits. -/
theorem deflateElement_lengthInstr {i e : Nat} (hi : i ≤ 28) (he : e < 2 ^ Rom.lenExtra i) (s : State) :
    deflateElement (lengthInstr i e) s = .next (lengthElement i e s) := by
  have hrows : i ≤ 7 ∨ i = 28 ∨ 8 ≤ i ∧ i ≤ 27 := by omega
  rcases hrows with h | rfl | ⟨h, h'⟩
  · obtain rfl : e = 0 := by interval_cases i <;> exact Nat.lt_one_iff.1 he
    interval_cases i <;> rfl
  · obtain rfl : e = 0 := Nat.lt_one_iff.1 he
    rfl
  · interval_cases i <;> exact congrArg (fun v => Host.Outcome.next (lengthElement _ v s)) (Nat.mod_eq_of_lt he)

/-- The meaning of a distance element, whatever its row of R157. -/
theorem deflateElement_distanceInstr {j f : Nat} (hj : j ≤ 29) (hf : f < 2 ^ Rom.distExtra j) (s : State) :
    deflateElement (distanceInstr j f) s = answer (distanceElement j f s) := by
  have hrows : j ≤ 3 ∨ 4 ≤ j := by omega
  rcases hrows with h | h
  · obtain rfl : f = 0 := by interval_cases j <;> exact Nat.lt_one_iff.1 hf
    interval_cases j <;> rfl
  · interval_cases j <;> exact congrArg (fun v => answer (distanceElement _ v s)) (Nat.mod_eq_of_lt hf)

theorem ReadyAt.literalElement {c : StreamCtx} {bits : List Bool} {out : List Byte} {s : State} (h : ReadyAt c bits out s)
    (hroom : s.roomFor (out.length + 1)) (x : Byte) :
    ∃ t, literalElement x s = .ok t ∧ t.bfinal = s.bfinal ∧ ReadyAt .litLen bits (out ++ [x]) t := by
  have hlatched : ReadyAt .litLen bits out { s with sym := x.setWidth 9, micro := .litLen } :=
    ⟨h.running, rfl, h.unread, h.canonical, h.produced⟩
  exact ⟨_, hlatched.put hroom x, rfl, hlatched.push x⟩

/-- A literal gives its byte (R217). -/
theorem ReadyAt.literal {x : Byte} {rest : List Bool} {out : List Byte} {s : State}
    (h : ReadyAt .litLen (litLenBits x.toNat ++ rest) out s) (hroom : s.roomFor (out.length + 1)) :
    ∃ t, InflateRound s t ∧ t.bfinal = s.bfinal ∧ ReadyAt .litLen rest (out ++ [x]) t := by
  rw [← encode_literalInstr] at h
  obtain ⟨hread, hround⟩ := h.readElement rfl (by decide) (literalInstr_ctx x) (literalInstr_wf x)
  obtain ⟨t, ht, hfinal, hready⟩ := hread.literalElement hroom x
  exact ⟨t, hround t (by rw [deflateElement_literalInstr, ht]; rfl), hfinal, hready⟩

/-- A length is latched; its distance comes next (R219). -/
theorem ReadyAt.length {i e : Nat} {rest : List Bool} {out : List Byte} {s : State} (hi : i ≤ 28)
    (he : e < 2 ^ Rom.lenExtra i) (h : ReadyAt .litLen (encode (lengthInstr i e) ++ rest) out s) :
    ∃ t, InflateRound s t ∧ t.bfinal = s.bfinal ∧ t.mlen.toNat = Rom.lenBase i + e ∧ ReadyAt .distance rest out t := by
  obtain ⟨hread, hround⟩ := h.readElement rfl (by decide) (lengthInstr_ctx i e) (lengthInstr_wf i e)
  refine ⟨_, hround _ (deflateElement_lengthInstr hi he _), rfl, ?_, hread.running, rfl, hread.unread, hread.canonical,
    hread.produced⟩
  have hrange : ∀ k ≤ 28, Rom.lenBase k + 2 ^ Rom.lenExtra k ≤ 2 ^ 9 := by decide
  have := hrange i hi
  rw [lengthElement_mlen, lengthOperand, BitVec.toNat_ofNat, Nat.mod_eq_of_lt (by omega)]

/-- A distance that reaches back into the output ends in the copy of R219. -/
theorem ReadyAt.distanceElement {c : StreamCtx} {bits : List Bool} {out : List Byte} {s : State} {j f : Nat}
    (h : ReadyAt c bits out s) (hj : j ≤ 29) (hback : Rom.distBase j + f ≤ out.length)
    (hroom : s.roomFor (out.length + s.mlen.toNat)) : ∃ t, distanceElement j f s = .ok t ∧ t.bfinal = s.bfinal ∧
      ReadyAt .litLen bits (Ref.copyOut s.mlen.toNat (Rom.distBase j + f) out) t := by
  have hlatched : ReadyAt .litLen bits out { s with mdist := BitVec.ofNat 16 (distanceOperand j f), micro := .litLen } :=
    ⟨h.running, rfl, h.unread, h.canonical, h.produced⟩
  have hbase : ∀ k ≤ 29, 1 ≤ Rom.distBase k := by decide
  have hlen : ¬ s.outLen < distanceOperand j f := by rw [h.outLen]; exact Nat.not_lt.2 hback
  rw [Machine.distanceElement, if_neg hlen]
  exact hlatched.copyBytes s.mlen.toNat (d := distanceOperand j f) ((hbase j hj).trans (Nat.le_add_right _ _)) hback hroom

theorem ReadyAt.distance {j f : Nat} {rest : List Bool} {out : List Byte} {s : State} (hj : j ≤ 29)
    (hf : f < 2 ^ Rom.distExtra j) (hback : Rom.distBase j + f ≤ out.length)
    (h : ReadyAt .distance (encode (distanceInstr j f) ++ rest) out s) (hroom : s.roomFor (out.length + s.mlen.toNat)) :
    ∃ t, InflateRound s t ∧ t.bfinal = s.bfinal ∧
      ReadyAt .litLen rest (Ref.copyOut s.mlen.toNat (Rom.distBase j + f) out) t := by
  obtain ⟨hread, hround⟩ := h.readElement rfl (by decide) (distanceInstr_ctx j f) (distanceInstr_wf j f)
  obtain ⟨t, ht, hfinal, hready⟩ := hread.distanceElement hj hback hroom
  exact ⟨t, hround t (by rw [deflateElement_distanceInstr hj hf, ht]; rfl), hfinal, hready⟩

/-- A literal or a match gives what it expands to. -/
theorem ReadyAt.token {tok : Ref.Token} {rest : List Bool} {out out' : List Byte} {s : State} (hok : tok.ok = true)
    (h : ReadyAt .litLen (tok.bits ++ rest) out s) (hexp : tok.expand out = some out') (hroom : s.roomFor out'.length) :
    ∃ t, InflateRounds s t ∧ t.bfinal = s.bfinal ∧ ReadyAt .litLen rest out' t := by
  cases tok with
  | literal x =>
    cases hexp
    obtain ⟨t, ht, hfinal, hready⟩ := h.literal (by simpa using hroom)
    exact ⟨t, .single ht, hfinal, hready⟩
  | copy i e j f =>
    obtain ⟨hi, he, hj, hf⟩ := of_decide_eq_true hok
    rw [Ref.Token.expand] at hexp
    split at hexp
    · cases hexp
    next hback =>
      cases hexp
      rw [length_copyOut] at hroom
      have hbits : (Ref.Token.copy i e j f).bits ++ rest =
          encode (lengthInstr i e) ++ (encode (distanceInstr j f) ++ rest) := by
        rw [encode_lengthInstr hi, encode_distanceInstr (by omega), Ref.Token.bits, Nat.add_comm 257]
        simp only [List.append_assoc]
      rw [hbits] at h
      obtain ⟨u, hu, hufinal, hmlen, hready⟩ := h.length hi he
      have huroom := InflateRounds.roomFor (.single hu) hroom
      obtain ⟨t, ht, htfinal, hready⟩ := hready.distance hj hf (Nat.le_of_not_lt hback) (hmlen ▸ huroom)
      exact ⟨t, .tail (.single hu) ht, htfinal.trans hufinal, hmlen ▸ hready⟩

/-! ### Expanding never shortens the output -/

theorem length_le_of_tokenExpand {tok : Ref.Token} {out out' : List Byte} (h : tok.expand out = some out') :
    out.length ≤ out'.length := by
  cases tok with
  | literal x => cases h; simp
  | copy i e j f =>
    rw [Ref.Token.expand] at h
    split at h
    · cases h
    · cases h; rw [length_copyOut]; exact Nat.le_add_right _ _

theorem length_le_of_foldlM {α : Type} {step : List Byte → α → Option (List Byte)}
    (hstep : ∀ out a out', step out a = some out' → out.length ≤ out'.length) {xs : List α} {out out' : List Byte}
    (h : xs.foldlM step out = some out') : out.length ≤ out'.length := by
  induction xs generalizing out with
  | nil => cases h; exact Nat.le_refl _
  | cons a xs ih =>
    rw [List.foldlM_cons, Option.bind_eq_bind, Option.bind_eq_some_iff] at h
    obtain ⟨mid, ha, hrest⟩ := h
    exact (hstep _ _ _ ha).trans (ih hrest)

theorem length_le_of_blockExpand {b : Ref.Block} {out out' : List Byte} (h : b.expand out = some out') :
    out.length ≤ out'.length := by
  cases b with
  | stored pad nlen data => cases h; simp
  | fixed tokens => exact length_le_of_foldlM (fun _ _ _ => length_le_of_tokenExpand) h

/-- The literals and matches of a block, one after the other. -/
theorem ReadyAt.tokens {tokens : List Ref.Token} {rest : List Bool} {out out' : List Byte} {s : State}
    (hok : tokens.all Ref.Token.ok = true) (h : ReadyAt .litLen (tokens.flatMap Ref.Token.bits ++ rest) out s)
    (hexp : tokens.foldlM Ref.Token.expand out = some out') (hroom : s.roomFor out'.length) :
    ∃ t, InflateRounds s t ∧ t.bfinal = s.bfinal ∧ ReadyAt .litLen rest out' t := by
  induction tokens generalizing out s with
  | nil => cases hexp; exact ⟨s, .refl, rfl, h⟩
  | cons tok tokens ih =>
    rw [List.foldlM_cons, Option.bind_eq_bind, Option.bind_eq_some_iff] at hexp
    obtain ⟨mid, hmid, hexp⟩ := hexp
    rw [List.all_cons, Bool.and_eq_true] at hok
    rw [List.flatMap_cons, List.append_assoc] at h
    have hle := length_le_of_foldlM (fun _ _ _ => length_le_of_tokenExpand) hexp
    obtain ⟨u, hu, hufinal, hready⟩ := h.token hok.1 hmid (hroom.mono hle)
    obtain ⟨t, ht, htfinal, hready⟩ := ih hok.2 hready hexp (hu.roomFor hroom)
    exact ⟨t, hu.trans ht, htfinal.trans hufinal, hready⟩

/-! ### Blocks -/

/-- From `s` the decoder comes to the end of its block, with `rest` unread and the output `out`; `final` is the block's BFINAL. -/
def EndsBlock (final : Bool) (rest : List Bool) (out : List Byte) (s : State) : Prop :=
  ∃ c u, InflateRounds s (endBlock u) ∧ u.bfinal = BitVec.ofBool final ∧ ReadyAt c rest out u

theorem EndsBlock.of_rounds {final : Bool} {rest : List Bool} {out : List Byte} {s t : State} (h : EndsBlock final rest out t)
    (hrounds : InflateRounds s t) : EndsBlock final rest out s := by
  obtain ⟨c, u, hu, hfinal, hready⟩ := h
  exact ⟨c, u, hrounds.trans hu, hfinal, hready⟩

/-- The end-of-block code (R218). -/
theorem ReadyAt.endOfBlock {final : Bool} {rest : List Bool} {out : List Byte} {s : State}
    (h : ReadyAt .litLen (litLenBits 256 ++ rest) out s) (hfinal : s.bfinal = BitVec.ofBool final) :
    EndsBlock final rest out s := by
  obtain ⟨hread, hround⟩ := ReadyAt.readElement (i := .eob) h rfl (by decide) rfl rfl
  exact ⟨_, _, .single (hround _ rfl), hfinal, hread.running, rfl, hread.unread, hread.canonical, hread.produced⟩

theorem encode_blockFixed (final : Bool) : encode (.blockFixed (BitVec.ofBool final)) = [final, true, false] := by
  cases final <;> rfl

theorem encode_blockStored (final : Bool) : encode (.blockStored (BitVec.ofBool final)) = [final, false, false] := by
  cases final <;> rfl

/-- The header of a block with the fixed codes (R213). -/
theorem ReadyAt.fixedHeader {final : Bool} {rest : List Bool} {out : List Byte} {s : State}
    (h : ReadyAt .blockHeader ([final, true, false] ++ rest) out s) :
    ∃ t, InflateRound s t ∧ t.bfinal = BitVec.ofBool final ∧ ReadyAt .litLen rest out t := by
  rw [← encode_blockFixed] at h
  obtain ⟨hread, hround⟩ := h.readElement rfl (by decide) rfl rfl
  exact ⟨_, hround _ rfl, rfl, hread.running, rfl, hread.unread, hread.canonical, hread.produced⟩

/-- The header of a stored block (R213). -/
theorem ReadyAt.storedHeader {final : Bool} {rest : List Bool} {out : List Byte} {s : State}
    (h : ReadyAt .blockHeader ([final, false, false] ++ rest) out s) :
    ∃ t, InflateRound s t ∧ t.bfinal = BitVec.ofBool final ∧ ReadyAt .storedBody rest out t := by
  rw [← encode_blockStored] at h
  obtain ⟨hread, hround⟩ := h.readElement rfl (by decide) rfl rfl
  exact ⟨_, hround _ rfl, rfl, hread.running, rfl, hread.unread, hread.canonical, hread.produced⟩

/-- Where a bit is left to read, the bits left end on a byte boundary. -/
theorem bitsLeft_add_rbit {s : State} (h : 0 < bitsLeft s) : (bitsLeft s + s.rbit.toNat) % 8 = 0 := by
  rw [bitsLeft] at h ⊢
  omega

/-- All the bytes of a stored block are there (R215). -/
theorem ReadyAt.storedBlock {c : StreamCtx} {bits : List Bool} {out : List Byte} {s : State} (h : ReadyAt c bits out s)
    {data : List Byte} {len : BitVec 16} (hlen : len.toNat = data.length) (hroom : s.roomFor (out.length + data.length)) :
    ∃ t, storedBlock len data s = .ok (endBlock t) ∧ t.bfinal = s.bfinal ∧ ReadyAt c bits (out ++ data) t := by
  have hlatched : ReadyAt c bits out { s with blen := len } := ⟨h.running, h.next, h.unread, h.canonical, h.produced⟩
  obtain ⟨t, ht, hfinal, hready⟩ := hlatched.putAll data hroom
  refine ⟨t, ?_, hfinal, hready⟩
  rw [Machine.storedBlock, hlen, List.take_length, ht]
  exact if_neg (Nat.lt_irrefl _)

theorem ReadyAt.storedBody {final : Bool} {pad : List Bool} {nlen : Nat} {data : List Byte} {rest : List Bool}
    {out : List Byte} {s : State} (hpad : pad.length = padBits s.rbit.toNat) (hdata : data.length ≤ 65535)
    (h : ReadyAt .storedBody (pad ++ lsbBits 16 data.length ++ lsbBits 16 nlen ++ bytesBits data ++ rest) out s)
    (hfinal : s.bfinal = BitVec.ofBool final) (hroom : s.roomFor (out.length + data.length)) :
    EndsBlock final rest (out ++ data) s := by
  have hlen : (BitVec.ofNat 16 data.length).toNat = data.length := Nat.mod_eq_of_lt (by omega)
  have hpadlen : pad.length ≤ 7 := by rw [hpad, padBits]; omega
  have hbits : pad ++ lsbBits 16 data.length ++ lsbBits 16 nlen ++ bytesBits data =
      encode (.storedBody pad (BitVec.ofNat 16 data.length) (BitVec.ofNat 16 nlen) data) := by
    rw [encode, lsbBits_toNat_ofNat, lsbBits_toNat_ofNat]
  rw [hbits] at h
  obtain ⟨hread, hround⟩ := h.read rfl rfl (decide_eq_true ⟨hpadlen, hlen.symm⟩)
    fun _ _ _ _ heq => by cases heq; exact hpad
  obtain ⟨t, ht, htfinal, hready⟩ := hread.storedBlock hlen hroom
  exact ⟨_, t, .single (hround _ (congrArg answer ht)), htfinal.trans hfinal, hready⟩

/-- The decoder skips the padding the block has (R100): the bits left tell where in its byte the body begins. -/
theorem ReadyAt.padBits_rbit {c : StreamCtx} {pad bits : List Bool} {out : List Byte} {s : State} {pos : Nat}
    (h : ReadyAt c (pad ++ bits) out s) (hbits : 0 < bits.length) (halign : (pos + (pad ++ bits).length) % 8 = 0)
    (hpad : pad.length ≤ 7) (hboundary : (pos + pad.length) % 8 = 0) : pad.length = padBits s.rbit.toNat := by
  have hleft : (pad ++ bits).length = bitsLeft s := by rw [← length_readerBits, h.unread]
  rw [List.length_append] at hleft halign
  have := bitsLeft_add_rbit (s := s) (by omega)
  rw [padBits]
  omega

/-- A block that begins at stream bit `pos`, the bits left ending on a byte boundary. -/
theorem ReadyAt.block {pos : Nat} {final : Bool} {b : Ref.Block} {rest : List Bool} {out out' : List Byte} {s : State}
    (hok : b.ok pos = true) (halign : (pos + (b.bits final ++ rest).length) % 8 = 0)
    (h : ReadyAt .blockHeader (b.bits final ++ rest) out s)
    (hexp : b.expand out = some out') (hroom : s.roomFor out'.length) : EndsBlock final rest out' s := by
  cases b with
  | fixed tokens =>
    rw [Ref.Block.bits, List.append_assoc, List.append_assoc] at h
    obtain ⟨u, hu, hufinal, hready⟩ := h.fixedHeader
    obtain ⟨t, ht, htfinal, hready⟩ := hready.tokens hok hexp (InflateRounds.roomFor (.single hu) hroom)
    exact (hready.endOfBlock (htfinal.trans hufinal)).of_rounds (.head hu ht)
  | stored pad nlen data =>
    cases hexp
    obtain ⟨hpad, hboundary, hdata⟩ := of_decide_eq_true hok
    have hbits : (Ref.Block.stored pad nlen data).bits final ++ rest = [final, false, false] ++
        (pad ++ (lsbBits 16 data.length ++ (lsbBits 16 nlen ++ (bytesBits data ++ rest)))) := by
      simp only [Ref.Block.bits, List.append_assoc]
    rw [hbits] at h halign
    obtain ⟨u, hu, hufinal, hready⟩ := h.storedHeader
    have hpadBits := hready.padBits_rbit (pos := pos + 3) (by rw [List.length_append, length_lsbBits]; omega)
      (by rw [← halign, List.length_append (as := [final, false, false]), Nat.add_assoc]; rfl) hpad hboundary
    have huroom := InflateRounds.roomFor (.single hu) hroom
    rw [List.length_append] at huroom
    exact (ReadyAt.storedBody hpadBits hdata (by simpa only [List.append_assoc] using hready) hufinal huroom).of_rounds
      (.single hu)

/-! ### Streams -/

theorem endBlock_final {s : State} (hfinal : s.bfinal = 1#1) (hzlib : s.zlib = false) : endBlock s = succeed s := by
  rw [endBlock, if_pos hfinal, if_neg (by simp [hzlib])]

theorem endBlock_notFinal {s : State} (h : s.bfinal = 0#1) : endBlock s = { s with micro := .blockHeader } := by
  rw [endBlock, if_neg (by rw [h]; decide)]

/-- A stream that begins at bit `pos`: the decoder comes to the end of its last block. -/
theorem ReadyAt.stream {blocks : List Ref.Block} {pos : Nat} {tail : List Bool} {out out' : List Byte} {s : State}
    (hne : blocks ≠ []) (hok : Ref.streamOk pos blocks = true)
    (halign : (pos + (Ref.streamBits blocks ++ tail).length) % 8 = 0)
    (h : ReadyAt .blockHeader (Ref.streamBits blocks ++ tail) out s) (hexp : Ref.expand out blocks = some out')
    (hroom : s.roomFor out'.length) : EndsBlock true tail out' s := by
  induction blocks generalizing pos out s with
  | nil => exact absurd rfl hne
  | cons b bs ih =>
    rw [Ref.expand, List.foldlM_cons, Option.bind_eq_bind, Option.bind_eq_some_iff] at hexp
    obtain ⟨mid, hmid, hexp⟩ := hexp
    rw [Ref.streamOk, Bool.and_eq_true] at hok
    cases bs with
    | nil => cases hexp; exact h.block hok.1 halign hmid hroom
    | cons b' bs =>
      rw [Ref.streamBits_cons _ (List.cons_ne_nil _ _), List.append_assoc] at h halign
      have hle := length_le_of_foldlM (fun _ _ _ => length_le_of_blockExpand) hexp
      obtain ⟨c, u, hu, hfinal, hready⟩ := h.block hok.1 halign hmid (hroom.mono hle)
      have hheader : ReadyAt .blockHeader (Ref.streamBits (b' :: bs) ++ tail) mid (endBlock u) := by
        rw [endBlock_notFinal hfinal]
        exact ⟨hready.running, rfl, hready.unread, hready.canonical, hready.produced⟩
      rw [List.length_append, ← Nat.add_assoc] at halign
      exact (ih (List.cons_ne_nil _ _) hok.2 halign hheader hexp (hu.roomFor hroom)).of_rounds hu

/-- `DECOMPRESS` of a well-formed stream whose expansion `MAXOUT` allows succeeds with the expansion (R213, R224). -/
theorem execDecompress_expands {blocks : List Ref.Block} {tail : List Bool} {out : List Byte} {s : State} (level : BitVec 4)
    (hne : blocks ≠ []) (hok : Ref.streamOk 0 blocks = true) (hbits : bytesBits s.input = Ref.streamBits blocks ++ tail)
    (hexp : Ref.expand [] blocks = some out) (hroom : s.roomFor out.length) :
    ∃ u, exec (.decompress level) s = .next (succeed u) ∧ u.output = out ∧ u.outLen = out.length := by
  have hunread : readerBits (atFirstBlock false (start s)) = bytesBits s.input := rfl
  have hstart : ReadyAt .blockHeader (Ref.streamBits blocks ++ tail) [] (atFirstBlock false (start s)) :=
    ⟨start_busy s, rfl, hunread.trans hbits, rfl, rfl⟩
  have halign : (0 + (Ref.streamBits blocks ++ tail).length) % 8 = 0 := by rw [← hbits, length_bytesBits]; omega
  obtain ⟨c, u, hu, hfinal, hready⟩ := hstart.stream hne hok halign hexp hroom
  have hzlib : u.zlib = false := (goesOn_endBlock (s := u) rfl rfl).1.symm.trans hu.kept.1
  rw [endBlock_final hfinal hzlib] at hu
  refine ⟨u, inflate_eq_of_rounds rfl hu ?_, hready.produced, hready.outLen⟩
  rw [inflating_eq, succeed_busy]
  rfl

end Sys2Proof.Machine
end

section
/-! PROOFS. What `COMPRESS` writes is a well-formed stream that expands to its input (43_deflate_encoder.md R197): at level 0 the
stored blocks, at every other level one fixed block whose tokens are the symbols of the greedy parse. -/

namespace Sys2Proof.Ref

/-! ### Level 0 -/

/-- The stored block of some data, as the encoder pads it (43_deflate_encoder.md R188). -/
def storedBlockOf (data : List Byte) : Block := .stored (List.replicate 5 false) (data.length ^^^ 0xFFFF) data

/-- The blocks that `storedBlocks` writes. -/
def storedBlockList : Nat → List Byte → List Block
  | 0, data => [storedBlockOf data]
  | fuel + 1, data =>
    if data.length ≤ 65535 then [storedBlockOf data]
    else storedBlockOf (data.take 65535) :: storedBlockList fuel (data.drop 65535)

theorem storedBlockList_ne_nil (fuel : Nat) (data : List Byte) : storedBlockList fuel data ≠ [] := by
  cases fuel with
  | zero => exact List.cons_ne_nil _ _
  | succ fuel => rw [storedBlockList]; split <;> exact List.cons_ne_nil _ _

theorem bytesBits_storedBlocks (fuel : Nat) (data : List Byte) :
    bytesBits (storedBlocks fuel data) = streamBits (storedBlockList fuel data) := by
  induction fuel generalizing data with
  | zero => exact bytesBits_storedBlockBytes true data
  | succ fuel ih =>
    rw [storedBlocks, storedBlockList]
    split
    · exact bytesBits_storedBlockBytes true data
    · rw [bytesBits_append, bytesBits_storedBlockBytes, ih, streamBits_cons _ (storedBlockList_ne_nil _ _), storedBlockOf]

theorem expand_storedBlockList (fuel : Nat) (out data : List Byte) :
    expand out (storedBlockList fuel data) = some (out ++ data) := by
  induction fuel generalizing out data with
  | zero => rfl
  | succ fuel ih =>
    rw [storedBlockList]
    split
    · rfl
    · have hrest := ih (out ++ data.take 65535) (data.drop 65535)
      rwa [List.append_assoc, List.take_append_drop] at hrest

theorem storedBlockOf_ok {pos : Nat} {data : List Byte} (hpos : pos % 8 = 0) (hdata : data.length ≤ 65535) :
    (storedBlockOf data).ok pos = true := by
  refine decide_eq_true ⟨?_, ?_, hdata⟩ <;> rw [List.length_replicate] <;> omega

/-- Header and padding are one byte, and a length takes two (30_encoding.md R100). -/
theorem length_storedBlockOf_bits (final : Bool) (data : List Byte) :
    ((storedBlockOf data).bits final).length = 8 * (data.length + 5) := by
  rw [storedBlockOf, ← bytesBits_storedBlockBytes, Machine.length_bytesBits, Machine.length_storedBlockBytes]

theorem streamOk_storedBlockList {fuel pos : Nat} {data : List Byte} (hpos : pos % 8 = 0)
    (hfuel : data.length ≤ 65535 * (fuel + 1)) : streamOk pos (storedBlockList fuel data) = true := by
  induction fuel generalizing pos data with
  | zero => rw [storedBlockList, streamOk, storedBlockOf_ok hpos (by omega)]; rfl
  | succ fuel ih =>
    rw [storedBlockList]
    split
    next hlast => rw [streamOk, storedBlockOf_ok hpos hlast]; rfl
    next hmore =>
      rw [streamOk, storedBlockOf_ok hpos (List.length_take_le ..), Bool.true_and, length_storedBlockOf_bits]
      exact ih (by omega) (by rw [List.length_drop]; omega)

/-! ### Levels 1 to 9 -/

/-- The symbol as it stands in the stream, with the symbols and fields of 43_deflate_encoder.md R192. -/
def Symbol.token : Symbol → Token
  | .literal x => .literal x
  | .pair len dist => .copy (Machine.lenSym len) (len - Rom.lenBase (Machine.lenSym len)) (Machine.distSym dist)
      (dist - Rom.distBase (Machine.distSym dist))

theorem Symbol.bits_token (sym : Symbol) : sym.token.bits = sym.bits := by
  cases sym <;> rfl

theorem Symbol.greedyAt.token_ok {sym : Symbol} {input : List Byte} {p : Nat} (h : sym.greedyAt input p) :
    sym.token.ok = true := by
  cases sym with
  | literal x => rfl
  | pair len dist =>
    obtain ⟨hlen, hpos, hdist, ⟨hmax, -, -⟩, -⟩ := h
    refine decide_eq_true ⟨?_, Machine.length_offset_lt hlen hmax, Machine.distSym_le dist,
      Machine.distance_offset_lt hpos (by omega)⟩
    obtain rfl | hlt := Nat.eq_or_lt_of_le hmax
    · exact Nat.le_refl 28
    · exact (Machine.lenSym_le (Nat.le_of_lt_succ hlt)).trans (by decide)

/-- Copying `n` bytes of a match, from any byte of it on, goes on along the input (42_matcher.md R171). -/
theorem copyOut_take {input : List Byte} {p d L : Nat} (h : matchAt input p d L) (hd : d ≤ p) (hpos : 1 ≤ d) (n k : Nat)
    (hk : k + n ≤ L) : copyOut n d (input.take (p + k)) = input.take (p + k + n) := by
  obtain ⟨-, hend, hbytes⟩ := h
  induction n generalizing k with
  | zero => rfl
  | succ n ih =>
    have hlen : (input.take (p + k)).length = p + k := List.length_take_of_le (by omega)
    have hback : p + k - d = p - d + k := by omega
    have hbyte : (input.take (p + k)).getD (p + k - d) 0 = input[p + k] := by
      rw [List.getD_eq_getElem?_getD, List.getElem?_take_of_lt (by omega), hback, hbytes k (by omega),
        List.getElem?_eq_getElem (by omega), Option.getD_some]
    rw [copyOut, hlen, hbyte, ← List.take_succ_eq_append_getElem (by omega)]
    have hnext := ih (k + 1) (by omega)
    rwa [← Nat.add_assoc, Nat.add_assoc (p + k), Nat.add_comm 1 n] at hnext

/-- A greedy symbol gives the bytes it covers. -/
theorem Symbol.greedyAt.expand_token {sym : Symbol} {input : List Byte} {p : Nat} (h : sym.greedyAt input p) :
    sym.token.expand (input.take p) = some (input.take (p + sym.size)) := by
  cases sym with
  | literal x =>
    obtain ⟨hx, -⟩ := h
    rw [token, Token.expand, Symbol.size, List.take_add_one, hx]
    rfl
  | pair len dist =>
    have hend : p + len ≤ input.length := h.size_bounds.2
    obtain ⟨hlen, hpos, hdist, hmatch, -⟩ := h
    have hlenBase : Rom.lenBase (Machine.lenSym len) + (len - Rom.lenBase (Machine.lenSym len)) = len :=
      Nat.add_sub_cancel' (Machine.lenBase_lenSym_le hlen hmatch.1)
    have hdistBase : Rom.distBase (Machine.distSym dist) + (dist - Rom.distBase (Machine.distSym dist)) = dist :=
      Nat.add_sub_cancel' (Machine.distBase_distSym_le hpos)
    have hback : ¬ (input.take p).length < dist := by rw [List.length_take]; omega
    rw [token, Token.expand, hlenBase, hdistBase, if_neg hback]
    exact congrArg some (copyOut_take hmatch (by omega) hpos len 0 (Nat.zero_add len).le)

/-- The greedy parse expands to the input (43_deflate_encoder.md R197). -/
theorem expand_parse {input : List Byte} {symbols : List Symbol} {p : Nat} (h : parses input p symbols) :
    (symbols.map Symbol.token).foldlM Token.expand (input.take p) = some input := by
  induction symbols generalizing p with
  | nil =>
    obtain rfl : p = input.length := h
    rw [List.take_length]; rfl
  | cons sym symbols ih =>
    obtain ⟨hsym, hrest⟩ := (parses_cons ..).1 h
    rw [List.map_cons, List.foldlM_cons, hsym.expand_token]
    exact ih hrest

theorem tokens_ok_of_parses {input : List Byte} {symbols : List Symbol} {p : Nat} (h : parses input p symbols) :
    (symbols.map Symbol.token).all Token.ok = true := by
  induction symbols generalizing p with
  | nil => rfl
  | cons sym symbols ih =>
    obtain ⟨hsym, hrest⟩ := (parses_cons ..).1 h
    rw [List.map_cons, List.all_cons, hsym.token_ok, ih hrest]
    rfl

theorem flatMap_bits_token (symbols : List Symbol) :
    (symbols.map Symbol.token).flatMap Token.bits = symbols.flatMap Symbol.bits := by
  rw [List.flatMap_map]
  exact List.flatMap_congr fun sym _ => sym.bits_token

end Sys2Proof.Ref

namespace Sys2Proof.Machine

/-! ### The round trip -/

/-- What `COMPRESS` leaves in `OUT` is a well-formed stream of its input, and zero bits. -/
def StreamOf (data output : List Byte) : Prop := ∃ blocks tail, blocks ≠ [] ∧ Ref.streamOk 0 blocks = true ∧
  bytesBits output = Ref.streamBits blocks ++ tail ∧ Ref.expand [] blocks = some data

theorem execCompress_stored_streamOf {s t : State} (h : exec (.compress 0#4) s = .next t) : StreamOf s.input t.output := by
  rw [(compressLevelZeroStores s).1] at h
  obtain rfl := Host.Outcome.next.inj h
  refine ⟨Ref.storedBlockList s.input.length s.input, [], Ref.storedBlockList_ne_nil _ _,
    Ref.streamOk_storedBlockList rfl (by omega), ?_, Ref.expand_storedBlockList _ _ _⟩
  have hout : (Memory.ofBytes (Ref.storedStream s.input)).bytes 0 (Ref.storedStream s.input).length =
      Ref.storedStream s.input := Memory.bytes_ofBytes _
  rw [State.output, hout, Ref.storedStream, Ref.bytesBits_storedBlocks, List.append_nil]

theorem execCompress_fixed_streamOf {level : BitVec 4} (hlevel : level ≠ 0#4) {s t : State}
    (h : exec (.compress level) s = .next t) : StreamOf s.input t.output := by
  obtain ⟨symbols, pad, hparse, -, hemits, hempty, -⟩ := compressFixed_emits (start_writerOk s)
  have hbits := bytesBits_output_of_emits hemits rfl ⟨rfl, rfl⟩ hempty
  rw [execCompress_fixed hlevel] at h
  generalize compressFixed (start s) = u at *
  obtain rfl := Host.Outcome.next.inj h
  refine ⟨[.fixed (symbols.map Ref.Symbol.token)], List.replicate pad false, List.cons_ne_nil _ _, ?_, ?_, ?_⟩
  · rw [Ref.streamOk, Ref.Block.ok, Ref.tokens_ok_of_parses hparse]
    rfl
  · rw [Ref.streamBits, Ref.Block.bits, Ref.flatMap_bits_token]
    exact hbits
  · have hexpand := Ref.expand_parse hparse
    rw [List.take_zero] at hexpand
    rw [Ref.expand, List.foldlM_cons, Ref.Block.expand]
    exact congrArg (· >>= fun out => List.foldlM Ref.Block.expand out []) hexpand

theorem execCompress_streamOf {level : BitVec 4} {s t : State} (h : exec (.compress level) s = .next t) :
    StreamOf s.input t.output := by
  by_cases hlevel : level = 0#4
  · subst hlevel; exact execCompress_stored_streamOf h
  · exact execCompress_fixed_streamOf hlevel h

/-- Settles O50: the decoder expands any well-formed stream, and what the encoder wrote is one of its input. -/
theorem compressRoundTrip : Obligations.CompressRoundTrip := by
  intro s t r level level' _ hcompress hinput hroom
  obtain ⟨blocks, tail, hne, hok, hbits, hexp⟩ := execCompress_streamOf hcompress
  rw [← hinput] at hbits
  obtain ⟨u, hu, hout, hlen⟩ := execDecompress_expands level' hne hok hbits hexp (hroom.imp_right (length_input s).trans_le)
  exact ⟨succeed u, hu, rfl, hout, hlen.trans (length_input s)⟩

end Sys2Proof.Machine
end

section
/-! PROOFS. `DECOMPRESS` of a well-formed stream, whole state (44_deflate_decoder.md R210, R213, R224): what a decoder's moves
leave as it was, the window beyond the bytes they push (20_memory.md R64, R65), and the run of `inflate` to the stream's end. -/

namespace Sys2Proof.Machine

/-! ### What a decoder leaves as it was -/

/-- What a running DEFLATE or zlib decoder may change: its output and the window, the reader, the latches, and who called it. -/
def onlyDecoder (s t : State) : Prop :=
  t = { s with
    outBuf := t.outBuf, outLen := t.outLen, win := t.win, wptr := t.wptr, wfill := t.wfill, rbase := t.rbase,
    rend := t.rend, rpos := t.rpos, rbit := t.rbit, bfinal := t.bfinal, btype := t.btype, sym := t.sym, mlen := t.mlen,
    mdist := t.mdist, blen := t.blen, micro := t.micro, zlib := t.zlib }

theorem onlyDecoder_trans {s t u : State} (h : onlyDecoder s t) (h' : onlyDecoder t u) : onlyDecoder s u := by
  unfold onlyDecoder at *; rw [h']; rw [h]

theorem DecoderMove.onlyDecoder {s t : State} (h : DecoderMove s t) : onlyDecoder s t := by
  cases h with
  | read | put | payload => rfl
  | latch h => rw [h]; rfl

theorem Decodes.onlyDecoder {s t : State} (h : Decodes s t) : onlyDecoder s t := by
  induction h with
  | refl => rfl
  | tail _ hmove ih => exact onlyDecoder_trans ih hmove.onlyDecoder

/-- Who called the DEFLATE decoder, and the bytes of `IN` it reads (10_state.md R32). -/
def State.readerBounds (s : State) : Bool × Nat × Nat := (s.zlib, s.rbase, s.rend)

/-- Only `DECOMPRESS_ZLIB` moves the reader's bounds, to those of its payload (45_zlib.md R245). -/
theorem Decodes.readerBounds {s t : State} (h : Decodes s t) :
    t.readerBounds = s.readerBounds ∨ t.readerBounds = (true, 2, s.inLen - 4) := by
  induction h with
  | refl => exact .inl rfl
  | @tail u v hprev hmove ih =>
    cases hmove with
    | read | put => exact ih
    | latch h => rw [h]; exact ih
    | payload =>
      have hlen : u.inLen = s.inLen := ((hostInputs_eq_iff _ _).1 (Decodes.hostInputs hprev)).2.1
      exact .inr (congrArg (fun n => (true, 2, n - 4)) hlen)

/-- The window beyond the bytes of the output is as it was (20_memory.md R64). -/
theorem DecoderMove.win_beyond {old : Memory} {s t : State} (h : DecoderMove s t) (hw : s.windowOk)
    (hold : ∀ a, min s.outLen 32768 ≤ a → s.win.read a = old.read a) :
    ∀ a, min t.outLen 32768 ≤ a → t.win.read a = old.read a := by
  cases h with
  | read | payload => exact hold
  | latch h => rw [h]; exact hold
  | put x =>
    obtain ⟨-, hptr, -⟩ := hw
    intro a ha
    rw [winPush_outLen, append_outLen] at ha
    have hother : a ≠ s.wptr.toNat := by rw [hptr, Rom.windowSize]; omega
    exact (Memory.read_write_other x hother).trans (hold a (by omega))

theorem Decodes.win_beyond {old : Memory} {s t : State} (h : Decodes s t) (hs : s.dataOk) (hw : s.windowOk)
    (hold : ∀ a, min s.outLen 32768 ≤ a → s.win.read a = old.read a) :
    ∀ a, min t.outLen 32768 ≤ a → t.win.read a = old.read a := by
  induction h with
  | refl => exact hold
  | tail hprev hmove ih => exact hmove.win_beyond (Decodes.windowOk hprev hs hw) ih

/-! ### To the end of the stream -/

/-- A decoder that ends in success without a checksum has come to that end by its moves. -/
theorem DecoderEnd.decodes_of_ok {s t : State} (h : DecoderEnd false s t) (hs : s.status = statusRunning) (hok : t.ok = true) :
    ∃ u, Decodes s u ∧ t = succeed u := by
  cases h with
  | running h =>
    have hrunning : t.ok = false := by rw [State.ok, h.status, hs]; decide
    exact absurd hok (by simp [hrunning])
  | succeeded h => exact ⟨_, h, rfl⟩
  | raised => exact absurd hok (by simp)
  | checked _ _ hz => cases hz

/-- After the final block the DEFLATE decoder does not go on, whoever called it (R213). -/
theorem inflating_endBlock_final {s : State} (h : s.bfinal = 1#1) : inflating (endBlock s) = false := by
  rw [endBlock, if_pos h, inflating_eq]
  split
  · exact Bool.and_false _
  · rw [succeed_busy]; rfl

/-- The decoder at the beginning of a stream runs to the end of its last block. -/
theorem ReadyAt.inflate {blocks : List Ref.Block} {pos : Nat} {tail : List Bool} {out out' : List Byte} {s : State}
    (hne : blocks ≠ []) (hok : Ref.streamOk pos blocks = true)
    (halign : (pos + (Ref.streamBits blocks ++ tail).length) % 8 = 0)
    (h : ReadyAt .blockHeader (Ref.streamBits blocks ++ tail) out s) (hexp : Ref.expand out blocks = some out')
    (hroom : s.roomFor out'.length) : ∃ u, inflate s = .next (endBlock u) ∧ u.zlib = s.zlib ∧ u.bfinal = 1#1 ∧
      u.output = out' ∧ u.outLen = out'.length := by
  obtain ⟨c, u, hu, hfinal, hready⟩ := h.stream hne hok halign hexp hroom
  have hzlib : u.zlib = s.zlib := (goesOn_endBlock (s := u) rfl rfl).1.symm.trans hu.kept.1
  exact ⟨u, inflate_eq_of_rounds (by rw [h.next]; rfl) hu (inflating_endBlock_final hfinal), hzlib, hfinal, hready.produced,
    hready.outLen⟩

/-- `DECOMPRESS` at its first block header. -/
theorem start_readyAt (s : State) : ReadyAt .blockHeader (bytesBits s.input) [] (atFirstBlock false (start s)) :=
  ⟨start_busy s, rfl, rfl, rfl, rfl⟩

/-- `DECOMPRESS` of a well-formed stream comes by its moves to the end of the final block, and succeeds (R213). -/
theorem execDecompress_decodes {blocks : List Ref.Block} {tail : List Bool} {out : List Byte} {s : State} (level : BitVec 4)
    (hne : blocks ≠ []) (hok : Ref.streamOk 0 blocks = true) (hbits : bytesBits s.input = Ref.streamBits blocks ++ tail)
    (hexp : Ref.expand [] blocks = some out) (hroom : s.roomFor out.length) :
    ∃ u, exec (.decompress level) s = .next (succeed u) ∧ Decodes (atFirstBlock false (start s)) u ∧ u.zlib = false ∧
      u.bfinal = 1#1 ∧ u.output = out ∧ u.outLen = out.length := by
  have halign : (0 + (Ref.streamBits blocks ++ tail).length) % 8 = 0 := by rw [← hbits, length_bytesBits]; omega
  obtain ⟨v, hrun, hzlib, hfinal, hout, hlen⟩ :=
    ReadyAt.inflate hne hok halign (hbits ▸ start_readyAt s) hexp (s := atFirstBlock false (start s)) hroom
  rw [endBlock_final hfinal hzlib] at hrun
  obtain ⟨u, hu, heq⟩ := (inflate_decoderEnd hrun).decodes_of_ok rfl (succeed_ok v)
  exact ⟨u, heq ▸ hrun, hu, (congrArg State.zlib heq :).symm.trans hzlib, (congrArg State.bfinal heq :).symm.trans hfinal,
    (congrArg State.output heq :).symm.trans hout, (congrArg State.outLen heq :).symm.trans hlen⟩

/-- Settles O28: the decoder runs to the end of the last block, and its moves keep the window and everything but its own
registers. -/
theorem decompressExpandsStreams : Obligations.DecompressExpandsStreams := by
  intro s level blocks tail out hmem hne hok hbits hexp hroom
  obtain ⟨u, hrun, hu, hzlib, hfinal, hout, hlen⟩ := execDecompress_decodes level hne hok hbits hexp hroom
  have hstart : (start s).dataOk := start_dataOk_of_memoriesOk hmem
  have hwindow := start_windowOk s
  have houtBuf := outBuf_eq_ofBytes_output (hu.dataOk hstart).1
  have hbeyond := hu.win_beyond (old := s.win) hstart hwindow fun _ _ => rfl
  have hframe := hu.onlyDecoder
  obtain ⟨hbase, hend⟩ : u.rbase = 0 ∧ u.rend = s.inLen := by
    rcases hu.readerBounds with h | h
    · exact ⟨congrArg (·.2.1) h, congrArg (·.2.2) h⟩
    · exact absurd (congrArg Prod.fst h) (by simp [State.readerBounds, hzlib])
  rw [onlyDecoder, hzlib, hbase, hend, hfinal] at hframe
  rw [hout] at houtBuf
  rw [hlen] at hbeyond
  exact ⟨succeed u, hrun, rfl, hout, houtBuf, hlen, hu.result, hu.windowOk hstart hwindow, hbeyond, congrArg succeed hframe⟩

end Sys2Proof.Machine
end

section
/-! PROOFS. Fetching an element of a DEFLATE stream is the sequence of reads of the pseudocode (40_bitstream.md R135 to R137,
41_huffman_tables.md R158, R159, 44_deflate_decoder.md R213, R215, R219): each read takes its field off the front of the unread
bits, or fails and leaves the state that `cutElement` describes. -/

namespace Sys2Proof

theorem length_lt_of_takeMsb_eq_none {n acc : Nat} {bs : List Bool} (h : takeMsb n acc bs = none) : bs.length < n := by
  induction n generalizing acc bs with
  | zero => cases h
  | succ n ih =>
    cases bs with
    | nil => exact Nat.succ_pos n
    | cons b bs => exact Nat.succ_lt_succ (ih h)

end Sys2Proof

namespace Sys2Proof.Machine

/-! ### The outcome of a fetch -/

theorem fetch_of_decode {s : State} {i : Instr} {rest : List Bool} {n : Nat} (hc : s.micro.readsBits = true)
    (h : decodeStream s.micro s.rbit.toNat (readerBits s) = .ok (i, rest)) (hn : rest.length + n = bitsLeft s) :
    fetch s = .element i (advanceBits n s) := by
  have htaken : bitsLeft s - rest.length = n := by omega
  rw [fetch, unreadBits_of_readsBits hc, h]
  dsimp only
  rw [moveCursor_of_readsBits hc, length_readerBits, htaken]

theorem fetch_of_truncated {s : State} (hc : s.micro.readsBits = true)
    (h : decodeStream s.micro s.rbit.toNat (readerBits s) = .error .truncated) :
    fetch s = .failed .truncatedStream (cutElement s) := by
  rw [fetch, unreadBits_of_readsBits hc, h]

/-! ### One read -/

/-- A field that is there is read, and the cursor stands past it (R136). -/
theorem readField_of_takeLsb {n v : Nat} {s : State} {rest : List Bool} (h : takeLsb n (readerBits s) = some (v, rest)) :
    Ref.readField n s = .ok (v, advanceBits n s) ∧ readerBits (advanceBits n s) = rest ∧ rest.length + n = bitsLeft s := by
  obtain ⟨hlt, hbits⟩ := eq_of_takeLsb h
  refine ⟨?_, ?_, length_readerBits s ▸ takeLsb_length h⟩
  · rw [Ref.readField, readBits_eq_ok_iff.2 ⟨hlt, ⟨rest, hbits.symm⟩, rfl⟩]
  · rw [readerBits_advanceBits, takeLsb_eq_drop h]

/-- A field that is cut fails, and nothing is consumed (R136). -/
theorem readField_of_takeLsb_none {n : Nat} {s : State} (h : takeLsb n (readerBits s) = none) :
    Ref.readField n s = .error (.truncatedStream, s) := by
  have hshort := length_lt_of_takeLsb_eq_none h
  rw [Ref.readField, readBits_of_bitsLeft_lt (length_readerBits s ▸ hshort)]

theorem takeLsb_one_cons (b : Bool) (bs : List Bool) : takeLsb 1 (b :: bs) = some (b.toNat, bs) := rfl

/-- A cursor that has moved over bits that are there moves on to the end of the bits. -/
theorem advanceBits_to_end {n : Nat} {s : State} (h : n ≤ bitsLeft s) :
    advanceBits (bitsLeft (advanceBits n s)) (advanceBits n s) = advanceBits (bitsLeft s) s := by
  rw [advanceBits_advanceBits, bitsLeft_advanceBits, Nat.add_sub_cancel' h]

/-! ### Block headers -/

theorem fetch_blockHeader {s : State} (hm : s.micro = .blockHeader) : fetch s = Ref.fetched (Ref.readHeader s) := by
  have hc : s.micro.readsBits = true := by rw [hm]; rfl
  cases hf : takeLsb 1 (readerBits s) with
  | none =>
    rw [fetch_of_truncated hc (by simp [hm, decodeStream, decodeBlockHeader, hf]), Ref.readHeader,
      readField_of_takeLsb_none hf]
    simp [cutElement, hm, hf, Ref.fetched]
  | some p =>
    obtain ⟨f, rest⟩ := p
    obtain ⟨hread, hrest, hlen⟩ := readField_of_takeLsb hf
    rw [Ref.readHeader, hread]
    dsimp only
    cases ht : takeLsb 2 rest with
    | none =>
      rw [fetch_of_truncated hc (by simp [hm, decodeStream, decodeBlockHeader, hf, ht]),
        readField_of_takeLsb_none (hrest ▸ ht)]
      simp [cutElement, hm, hf, Ref.fetched]
    | some q =>
      obtain ⟨t, rest'⟩ := q
      obtain ⟨hread', -, hlen'⟩ := readField_of_takeLsb (hrest ▸ ht)
      rw [bitsLeft_advanceBits] at hlen'
      rw [hread', fetch_of_decode (n := 1 + 2) hc (by rw [hm, decodeStream, decodeBlockHeader, hf]; dsimp only; rw [ht])
        (by omega), advanceBits_advanceBits]
      rfl

/-! ### Stored bodies -/

/-- `AlignByte` moves the cursor over the padding (R135). -/
theorem alignByte_eq_advanceBits (s : State) : alignByte s = advanceBits (padBits s.rbit.toNat) s := by
  by_cases h : s.rbit = 0#3
  · rw [alignByte_of_rbit_zero h, h, show padBits (0#3).toNat = 0 from rfl, advanceBits_zero]
  · have hpos : 0 < s.rbit.toNat := by bv_omega
    have hpad : s.rbit.toNat + padBits s.rbit.toNat = 8 := by rw [padBits]; omega
    rw [alignByte_of_rbit_ne_zero h, advanceBits, hpad]
    rfl

/-- `ReadBits(8)` over the whole bytes that are there, `n` at most. -/
theorem readBytes_eq (n : Nat) (s : State) : Ref.readBytes n s =
    ((takeBytes n (readerBits s)).1, advanceBits (8 * (takeBytes n (readerBits s)).1.length) s) := by
  induction n generalizing s with
  | zero => rw [Ref.readBytes, takeBytes, List.length_nil, Nat.mul_zero, advanceBits_zero]
  | succ n ih =>
    rw [Ref.readBytes, takeBytes, takeByte]
    cases hx : takeLsb 8 (readerBits s) with
    | none =>
      rw [readBits_of_bitsLeft_lt (length_readerBits s ▸ length_lt_of_takeLsb_eq_none hx)]
      simp [advanceBits_zero]
    | some p =>
      obtain ⟨v, rest⟩ := p
      obtain ⟨hlt, hbits⟩ := eq_of_takeLsb hx
      have hrest : readerBits (advanceBits 8 s) = rest := by rw [readerBits_advanceBits, takeLsb_eq_drop hx]
      rw [readBits_eq_ok_iff.2 ⟨hlt, ⟨rest, hbits.symm⟩, rfl⟩]
      simp only [ih, hrest, Option.map_some, advanceBits_advanceBits, List.length_cons, Nat.mul_succ, Nat.add_comm 8]

theorem fetch_storedBody {s : State} (hm : s.micro = .storedBody) : fetch s = Ref.fetched (Ref.readStored s) := by
  have hc : s.micro.readsBits = true := by rw [hm]; rfl
  have halign : readerBits (alignByte s) = (readerBits s).drop (padBits s.rbit.toNat) := by
    rw [alignByte_eq_advanceBits, readerBits_advanceBits]
  cases hl : takeLsb 16 (readerBits (alignByte s)) with
  | none =>
    rw [fetch_of_truncated hc (by simp [hm, decodeStream, decodeStoredBody, ← halign, hl]), Ref.readStored,
      readField_of_takeLsb_none hl]
    simp [cutElement, hm, hl, Ref.fetched]
  | some p =>
    obtain ⟨len, rest⟩ := p
    obtain ⟨hread, hrest, hlen⟩ := readField_of_takeLsb hl
    rw [Ref.readStored, hread]
    dsimp only
    cases hn : takeLsb 16 rest with
    | none =>
      rw [fetch_of_truncated hc (by simp [hm, decodeStream, decodeStoredBody, ← halign, hl, hn]),
        readField_of_takeLsb_none (hrest ▸ hn)]
      simp [cutElement, hm, hl, Ref.fetched]
    | some q =>
      obtain ⟨nlen, rest'⟩ := q
      obtain ⟨hread', hrest', hlen'⟩ := readField_of_takeLsb (hrest ▸ hn)
      have hdata := congrArg List.length (bytesBits_takeBytes len rest')
      rw [List.length_append, length_bytesBits] at hdata
      have htaken : padBits s.rbit.toNat + (16 + (16 + 8 * (takeBytes len rest').1.length)) + (takeBytes len rest').2.length =
          bitsLeft s := by
        rw [alignByte_eq_advanceBits] at hlen hlen'
        simp only [bitsLeft_advanceBits] at hlen hlen'
        omega
      have hskip : (readerBits s).length - (readerBits (alignByte s)).length = padBits s.rbit.toNat := by
        rw [halign, List.length_drop, length_readerBits]; omega
      rw [hread', fetch_of_decode (n := padBits s.rbit.toNat + (16 + (16 + 8 * (takeBytes len rest').1.length))) hc
        (by rw [hm, decodeStream, decodeStoredBody]; dsimp only; rw [← halign, hl]; dsimp only; rw [hn]) (by omega)]
      dsimp only
      rw [readBytes_eq, hrest', hskip, alignByte_eq_advanceBits]
      simp only [advanceBits_advanceBits, Ref.fetched, Nat.add_assoc]

/-! ### Codes, bit by bit -/

/-- A bit that is there is read. -/
theorem readField_one_of_cons {b : Bool} {bs : List Bool} {s : State} (h : readerBits s = b :: bs) :
    Ref.readField 1 s = .ok (b.toNat, advanceBits 1 s) ∧ readerBits (advanceBits 1 s) = bs ∧ bs.length + 1 = bitsLeft s :=
  readField_of_takeLsb (h ▸ takeLsb_one_cons b bs)

/-- At the end of the bits the next read fails, and the cursor is as far on as it can go. -/
theorem readField_one_of_nil {s : State} (h : readerBits s = []) :
    Ref.readField 1 s = .error (.truncatedStream, advanceBits (bitsLeft s) s) := by
  rw [readField_of_takeLsb_none (h ▸ rfl), ← length_readerBits, h, List.length_nil, advanceBits_zero]

/-- The loop of `DecodeLitLen` tests the same ranges as the table of R152. -/
theorem readLitLenFrom_of_cons {fuel len code : Nat} {b : Bool} {bs : List Bool} {s : State} (h : readerBits s = b :: bs) :
    (∀ sym, Rom.litLenAt (len + 1) (2 * code + b.toNat) = some sym →
      Ref.readLitLenFrom (fuel + 1) len code s = .ok (sym, advanceBits 1 s)) ∧
    (Rom.litLenAt (len + 1) (2 * code + b.toNat) = none →
      Ref.readLitLenFrom (fuel + 1) len code s =
        Ref.readLitLenFrom fuel (len + 1) (2 * code + b.toNat) (advanceBits 1 s)) := by
  rw [Ref.readLitLenFrom, (readField_one_of_cons h).1, Rom.litLenAt]
  dsimp only
  split_ifs <;> simp

/-- The loop of `DecodeLitLen` (R158) reads the code the decoder finds; where none is whole, every bit there is. A code has at
most nine bits, so the loop's rounds suffice. -/
theorem readLitLenFrom_eq {fuel len code : Nat} {s : State} (hlen : len + fuel = 9) (hfuel : 0 < fuel) :
    (∀ sym rest, decodeLitLenFrom fuel len code (readerBits s) = some (sym, rest) →
      Ref.readLitLenFrom fuel len code s = .ok (sym, advanceBits (bitsLeft s - rest.length) s)) ∧
    (decodeLitLenFrom fuel len code (readerBits s) = none →
      Ref.readLitLenFrom fuel len code s = .error (.truncatedStream, advanceBits (bitsLeft s) s)) := by
  induction fuel generalizing len code s with
  | zero => exact absurd hfuel (Nat.lt_irrefl 0)
  | succ fuel ih =>
    cases hbits : readerBits s with
    | nil =>
      refine ⟨nofun, fun _ => ?_⟩
      rw [Ref.readLitLenFrom, readField_one_of_nil hbits]
    | cons b bs =>
      obtain ⟨-, hrest, hleft⟩ := readField_one_of_cons hbits
      obtain ⟨hcode, hmore⟩ := readLitLenFrom_of_cons (fuel := fuel) (len := len) (code := code) hbits
      rw [decodeLitLenFrom]
      cases hat : Rom.litLenAt (len + 1) (2 * code + b.toNat) with
      | some sym =>
        refine ⟨fun _ _ h => ?_, nofun⟩
        cases h
        rw [hcode sym hat, ← hleft, Nat.add_sub_cancel_left]
      | none =>
        have hshort : len + 1 ≠ 9 := by
          intro h
          rw [Rom.litLenAt, h] at hat
          simp at hat
        obtain ⟨hsome, hnone⟩ := ih (s := advanceBits 1 s) (len := len + 1) (code := 2 * code + b.toNat) (by omega) (by omega)
        rw [hrest] at hsome hnone
        rw [hmore hat]
        refine ⟨fun sym rest h => ?_, fun h => ?_⟩
        · have hlt := decodeLitLenFrom_length_lt h
          have hmoved : 1 + (bitsLeft s - 1 - rest.length) = bitsLeft s - rest.length := by omega
          rw [hsome sym rest h, advanceBits_advanceBits, bitsLeft_advanceBits, hmoved]
        · rw [hnone h, advanceBits_to_end (by omega)]

/-- A distance code, read bit by bit from the top (R159). -/
theorem readCode_eq (n acc : Nat) (s : State) :
    (∀ v rest, takeMsb n acc (readerBits s) = some (v, rest) → Ref.readCode n acc s = .ok (v, advanceBits n s)) ∧
    (takeMsb n acc (readerBits s) = none →
      Ref.readCode n acc s = .error (.truncatedStream, advanceBits (bitsLeft s) s)) := by
  induction n generalizing acc s with
  | zero =>
    refine ⟨fun _ _ h => ?_, nofun⟩
    cases h
    rw [Ref.readCode, advanceBits_zero]
  | succ n ih =>
    rw [Ref.readCode]
    cases hbits : readerBits s with
    | nil =>
      refine ⟨nofun, fun _ => ?_⟩
      rw [readField_one_of_nil hbits]
    | cons b bs =>
      obtain ⟨hread, hrest, hleft⟩ := readField_one_of_cons hbits
      obtain ⟨hsome, hnone⟩ := ih (acc * 2 + b.toNat) (advanceBits 1 s)
      rw [hrest, Nat.mul_comm] at hsome hnone
      rw [hread, takeMsb]
      dsimp only
      rw [Nat.mul_comm acc]
      refine ⟨fun v rest h => ?_, fun h => ?_⟩
      · rw [hsome v rest h, advanceBits_advanceBits, Nat.add_comm]
      · rw [hnone h, advanceBits_to_end (by omega)]

/-! ### Literals, lengths and distances -/

/-- The extra bits of a length follow its code (R104). -/
theorem decodeLitLenElement_of_lengthCode {sym : Nat} {bs rest : List Bool} (h : decodeLitLen bs = some (sym, rest))
    (hlow : 257 ≤ sym) (hhigh : sym ≤ 285) :
    (∀ e rest', takeLsb (Rom.lenExtra (sym - 257)) rest = some (e, rest') →
      decodeLitLenElement bs = .ok (lengthInstr (sym - 257) e, rest')) ∧
    (takeLsb (Rom.lenExtra (sym - 257)) rest = none → decodeLitLenElement bs = .error .truncated) := by
  rw [decodeLitLenElement, h]
  dsimp only
  rw [if_neg (by omega), if_neg (by omega), if_neg (by omega), if_pos hhigh]
  exact ⟨fun e rest' he => by rw [he], fun he => by rw [he]⟩

/-- `DecodeLitLen` reads a whole code, and no more (R158). -/
theorem readLitLen_code {s : State} {sym : Nat} {rest : List Bool} (hd : decodeLitLen (readerBits s) = some (sym, rest)) :
    Ref.readLitLenFrom 9 0 0 s = .ok (sym, advanceBits (bitsLeft s - rest.length) s) ∧
      readerBits (advanceBits (bitsLeft s - rest.length) s) = rest ∧ rest.length < bitsLeft s := by
  refine ⟨(readLitLenFrom_eq rfl (by decide)).1 sym rest hd, ?_, length_readerBits s ▸ decodeLitLenFrom_length_lt hd⟩
  rw [readerBits_advanceBits, ← length_readerBits]
  exact (List.suffix_iff_eq_drop.1 (decodeLitLenFrom_suffix hd)).symm

/-- A length is read code first, then its extra bits (R158, R219). -/
theorem fetch_lengthCode {s : State} (hm : s.micro = .litLen) {sym : Nat} {rest : List Bool}
    (hd : decodeLitLen (readerBits s) = some (sym, rest)) (hlow : 257 ≤ sym) (hhigh : sym ≤ 285) :
    fetch s = Ref.fetched (Ref.readLitLen s) := by
  have hc : s.micro.readsBits = true := by rw [hm]; rfl
  obtain ⟨hread, hrest, hlt⟩ := readLitLen_code hd
  obtain ⟨hwhole, hcut⟩ := decodeLitLenElement_of_lengthCode hd hlow hhigh
  rw [Ref.readLitLen, hread]
  dsimp only
  rw [if_neg (by omega), if_neg (by omega), if_neg (by omega), if_neg (by omega), if_neg (by omega)]
  cases he : takeLsb (Rom.lenExtra (sym - 257)) rest with
  | none =>
    rw [readField_of_takeLsb_none (s := advanceBits (bitsLeft s - rest.length) s) (by rw [hrest, he]),
      fetch_of_truncated hc (by rw [hm, decodeStream, hcut he])]
    simp [cutElement, hm, hd, Ref.fetched]
  | some q =>
    obtain ⟨e, rest'⟩ := q
    obtain ⟨hextra, -, hlen⟩ :=
      readField_of_takeLsb (s := advanceBits (bitsLeft s - rest.length) s) (by rw [hrest, he])
    rw [bitsLeft_advanceBits] at hlen
    rw [hextra, fetch_of_decode (n := bitsLeft s - rest.length + Rom.lenExtra (sym - 257)) hc
      (by rw [hm, decodeStream, hwhole e rest' he]) (by omega), advanceBits_advanceBits]
    rfl

/-- Every other element is its code alone; the decoder and the pseudocode tell the symbols apart alike. -/
theorem fetch_codeAlone {s : State} (hm : s.micro = .litLen) {sym : Nat} {rest : List Bool}
    (hd : decodeLitLen (readerBits s) = some (sym, rest)) (hsym : sym ≤ 256 ∨ 286 ≤ sym) :
    fetch s = Ref.fetched (Ref.readLitLen s) := by
  have hc : s.micro.readsBits = true := by rw [hm]; rfl
  obtain ⟨hread, -, hlt⟩ := readLitLen_code hd
  have hle := (eq_of_decodeLitLen hd).1
  obtain ⟨i, hdecode, hreads⟩ : ∃ i, decodeLitLenElement (readerBits s) = .ok (i, rest) ∧
      Ref.readLitLen s = .ok (i, advanceBits (bitsLeft s - rest.length) s) := by
    rw [decodeLitLenElement, hd, Ref.readLitLen, hread]
    dsimp only
    split_ifs
    any_goals omega
    all_goals exact ⟨_, rfl, rfl⟩
  rw [fetch_of_decode hc (by rw [hm, decodeStream, hdecode]) (Nat.add_sub_cancel' hlt.le), hreads]
  rfl

theorem fetch_litLen {s : State} (hm : s.micro = .litLen) : fetch s = Ref.fetched (Ref.readLitLen s) := by
  cases hd : decodeLitLen (readerBits s) with
  | none =>
    rw [fetch_of_truncated (by rw [hm]; rfl) (by simp [hm, decodeStream, decodeLitLenElement, hd]), Ref.readLitLen,
      (readLitLenFrom_eq rfl (by decide)).2 hd]
    simp [cutElement, hm, hd, Ref.fetched]
  | some p =>
    obtain ⟨sym, rest⟩ := p
    by_cases hlength : 257 ≤ sym ∧ sym ≤ 285
    · exact fetch_lengthCode hm hd hlength.1 hlength.2
    · exact fetch_codeAlone hm hd (by omega)

theorem fetch_distance {s : State} (hm : s.micro = .distance) : fetch s = Ref.fetched (Ref.readDistance s) := by
  have hc : s.micro.readsBits = true := by rw [hm]; rfl
  obtain ⟨hsome, hnone⟩ := readCode_eq 5 0 s
  cases hd : takeMsb 5 0 (readerBits s) with
  | none =>
    have hshort := length_lt_of_takeMsb_eq_none hd
    rw [length_readerBits] at hshort
    rw [fetch_of_truncated hc (by simp [hm, decodeStream, decodeDistanceElement, hd]), Ref.readDistance, hnone hd]
    simp [cutElement, hm, Ref.fetched, Nat.min_eq_right hshort.le]
  | some p =>
    obtain ⟨j, rest⟩ := p
    have hlen := takeMsb_length hd
    rw [length_readerBits] at hlen
    have hrest : readerBits (advanceBits 5 s) = rest := by
      rw [readerBits_advanceBits, (eq_of_takeMsb hd).2, List.drop_left' (length_msbBits 5 j)]
    rw [Ref.readDistance, hsome j rest hd]
    dsimp only
    split
    next hreserved =>
      have hextra : Rom.distExtra j = 0 := List.getD_eq_default _ _ hreserved
      rw [fetch_of_decode (n := 5) hc
        (by rw [hm, decodeStream, decodeDistanceElement, hd]; dsimp only; rw [hextra, takeLsb]) hlen]
      rfl
    next =>
      cases hf : takeLsb (Rom.distExtra j) rest with
      | none =>
        rw [readField_of_takeLsb_none (hrest ▸ hf),
          fetch_of_truncated hc (by simp [hm, decodeStream, decodeDistanceElement, hd, hf])]
        simp [cutElement, hm, Ref.fetched, Nat.min_eq_left (show 5 ≤ bitsLeft s by omega)]
      | some q =>
        obtain ⟨f, rest'⟩ := q
        obtain ⟨hextra, -, hlen'⟩ := readField_of_takeLsb (hrest ▸ hf)
        rw [bitsLeft_advanceBits] at hlen'
        rw [hextra, fetch_of_decode (n := 5 + Rom.distExtra j) hc
          (by rw [hm, decodeStream, decodeDistanceElement, hd]; dsimp only; rw [hf]) (by omega), advanceBits_advanceBits]
        rfl

/-- Settles O18: each element's fields are taken off the front of the unread bits in the order of the pseudocode's reads, and the
first one that is cut ends both. -/
theorem elementsAreReadAsThePseudocodeReads : Obligations.ElementsAreReadAsThePseudocodeReads := fun _ _ _ =>
  ⟨fetch_blockHeader, fetch_storedBody, fetch_litLen, fetch_distance⟩

end Sys2Proof.Machine
end

section
/-! PROOFS. The meanings of the DEFLATE stream elements (44_deflate_decoder.md R212 to R221). Putting a sequence of bytes appends
and pushes those the output bound leaves room for; a stored body, a literal and a match are each such a sequence. -/

namespace Sys2Proof.Machine

/-! ### Ends of an element -/

theorem afterBlock_eq_endBlock (s : State) : Ref.afterBlock s = endBlock s := rfl

/-- A failure, as the statements describe it (60_exceptions.md R330, R332). -/
theorem failedAs_raise (k : ErrorKind) (s : State) : Ref.failedAs (statusFailed k) s (raise k s) := raise_frame k s

/-! ### Bytes put -/

/-- The two writes of `Put` where there is room (R212). -/
def push (x : Byte) (s : State) : State := winPush x (append x s)

theorem push_memoriesOk {s : State} (h : s.memoriesOk = true) (x : Byte) : (push x s).memoriesOk = true :=
  winPush_memoriesOk (append_memoriesOk h x) x

theorem push_wptr_toNat (x : Byte) (s : State) : (push x s).wptr.toNat = (s.wptr.toNat + 1) % 32768 := by
  rw [push, winPush_wptr, append_wptr, BitVec.toNat_add]; rfl

theorem push_wfill_toNat (x : Byte) (s : State) : (push x s).wfill.toNat = min (s.wfill.toNat + 1) 32768 := by
  rw [push, winPush_wfill, append_wfill, BitVec.toNat_ofNat, Rom.windowSize]; omega

/-- Each byte in order. -/
def pushAll : List Byte → State → State
  | [], s => s
  | x :: xs, s => pushAll xs (push x s)

theorem pushAll_produced (xs : List Byte) (s : State) : Ref.producedFrom s (pushAll xs s) := by
  induction xs generalizing s with
  | nil => rfl
  | cons x xs ih => exact onlyOutput_trans (onlyOutput_put x s) (ih (push x s))

/-- `OUT` after a sequence of bytes (20_memory.md R63). -/
theorem pushAll_outputGrewBy (xs : List Byte) {s : State} (hmem : s.memoriesOk = true) :
    Ref.outputGrewBy xs s (pushAll xs s) := by
  induction xs generalizing s with
  | nil => exact ⟨rfl, fun _ _ => rfl, fun _ hk => absurd hk (Nat.not_lt_zero _), fun _ _ => rfl⟩
  | cons x xs ih =>
    have hlen : (push x s).outLen = s.outLen + 1 := rfl
    have hother {a : Nat} (ha : a ≠ s.outLen) : (push x s).outBuf.read a = s.outBuf.read a := Memory.read_write_other x ha
    obtain ⟨hgrown, hbelow, hnew, hbeyond⟩ := ih (push_memoriesOk hmem x)
    rw [hlen] at hgrown hbelow hnew hbeyond
    refine ⟨by rw [List.length_cons, pushAll, hgrown]; omega, fun a ha => ?_, fun k hk => ?_, fun a ha => ?_⟩
    · exact (hbelow a (by omega)).trans (hother (by omega))
    · cases k with
      | zero =>
        have hwf : s.outBuf.wf = true := ((memoriesOk_iff s).1 hmem).2.1
        exact (hbelow s.outLen (Nat.lt_succ_self _)).trans (Memory.read_write_same hwf s.outLen x)
      | succ k =>
        rw [List.getD_cons_succ, ← hnew k (Nat.lt_of_succ_lt_succ hk), Nat.add_right_comm]
        rfl
    · rw [List.length_cons] at ha
      exact (hbeyond a (by omega)).trans (hother (by omega))

/-- The window after a sequence of bytes (20_memory.md R64): of a long one it keeps the last 32768. -/
theorem pushAll_windowGrewBy (xs : List Byte) {s : State} (hmem : s.memoriesOk = true) (hfill : s.wfill.toNat ≤ 32768) :
    Ref.windowGrewBy xs s (pushAll xs s) := by
  induction xs generalizing s with
  | nil =>
    refine ⟨?_, ?_, fun _ hk => absurd hk (Nat.not_lt_zero _), fun _ _ => rfl⟩
    · exact (Nat.mod_eq_of_lt s.wptr.isLt).symm
    · exact (Nat.min_eq_left hfill).symm
  | cons x xs ih =>
    have hptr := push_wptr_toNat x s
    have hfill' := push_wfill_toNat x s
    have hother {a : Nat} (ha : a ≠ s.wptr.toNat) : (push x s).win.read a = s.win.read a := Memory.read_write_other x ha
    obtain ⟨hptrs, hfills, hnew, hkept⟩ := ih (push_memoriesOk hmem x) (by omega)
    rw [hptr] at hptrs hnew hkept
    rw [hfill'] at hfills
    have hlt := s.wptr.isLt
    have hcount : min (min (s.wfill.toNat + 1) 32768 + xs.length) 32768 =
        min (s.wfill.toNat + (xs.length + 1)) 32768 := by
      rw [← Nat.add_min_add_right, Nat.min_assoc, Nat.min_eq_right (Nat.le_add_right _ _), Nat.add_assoc, Nat.add_comm 1]
    refine ⟨by rw [List.length_cons, pushAll, hptrs]; omega, hfills.trans hcount, fun k hk hlast => ?_, fun a ha => ?_⟩
    · rw [List.length_cons] at hk hlast
      cases k with
      | zero =>
        have hwf : s.win.wf = true := ((memoriesOk_iff s).1 hmem).2.2.1
        rw [Nat.add_zero, Nat.mod_eq_of_lt hlt, List.getD_cons_zero]
        exact (hkept s.wptr.toNat fun k hk => by omega).trans (Memory.read_write_same hwf s.wptr.toNat x)
      | succ k =>
        have haddr : (s.wptr.toNat + (k + 1)) % 32768 = ((s.wptr.toNat + 1) % 32768 + k) % 32768 := by omega
        rw [haddr, List.getD_cons_succ]
        exact hnew k (by omega) (by omega)
    · have hfirst := ha 0 (Nat.succ_pos _)
      rw [Nat.add_zero, Nat.mod_eq_of_lt hlt] at hfirst
      refine (hkept a fun k hk => ?_).trans (hother hfirst)
      have hne := ha (k + 1) (Nat.succ_lt_succ hk)
      omega

/-- With room for all of its bytes `putAll` pushes them (R212). -/
theorem putAll_room {xs : List Byte} {s : State} (h : s.roomFor (s.outLen + xs.length)) : putAll xs s = .ok (pushAll xs s) := by
  induction xs generalizing s with
  | nil => rfl
  | cons x xs ih =>
    rw [List.length_cons] at h
    have hroom : (push x s).roomFor ((push x s).outLen + xs.length) :=
      State.roomFor.mono (s := s) h (by show s.outLen + 1 + xs.length ≤ _; omega)
    rw [putAll_cons, put_room (h.mono (m := s.outLen + 1) (by omega))]
    exact ih hroom

/-- With too little room it pushes the bytes that fit, and the next one raises (R212). -/
theorem putAll_full {xs : List Byte} {s : State} (hmax : s.maxOut ≠ 0) (hfull : s.maxOut < s.outLen + xs.length)
    (hne : 0 < xs.length) :
    putAll xs s = .error (raise .outputLimitExceeded (pushAll (xs.take (s.maxOut - s.outLen)) s)) := by
  induction xs generalizing s with
  | nil => exact absurd hne (Nat.lt_irrefl 0)
  | cons x xs ih =>
    rw [List.length_cons] at hfull
    rcases Nat.lt_or_ge s.outLen s.maxOut with hroom | hmet
    · obtain ⟨m, hm⟩ : ∃ m, s.maxOut - s.outLen = m + 1 := ⟨s.maxOut - s.outLen - 1, by omega⟩
      have hnext : s.maxOut - (s.outLen + 1) = m := by omega
      have hrest := ih (s := push x s) hmax (by show s.maxOut < s.outLen + 1 + xs.length; omega) (by omega)
      rw [putAll_cons, put_room (.inr hroom), hm, List.take_succ_cons, pushAll]
      rw [show (push x s).maxOut - (push x s).outLen = m from hnext] at hrest
      exact hrest
    · rw [putAll_cons, put_full hmax hmet, Nat.sub_eq_zero_of_le hmet, List.take_zero, pushAll]

/-! ### Stored bodies -/

theorem storedBlock_whole {len : BitVec 16} {data : List Byte} {s : State} (hlen : data.length = len.toNat)
    (hroom : s.roomFor (s.outLen + data.length)) :
    storedBlock len data s = .ok (endBlock (pushAll data { s with blen := len })) := by
  have hput : putAll data { s with blen := len } = .ok (pushAll data { s with blen := len }) :=
    putAll_room (s := { s with blen := len }) hroom
  rw [storedBlock, ← hlen, List.take_length]
  rw [hput]
  exact if_neg (Nat.lt_irrefl _)

theorem storedBlock_cut {len : BitVec 16} {data : List Byte} {s : State} (hlen : data.length < len.toNat)
    (hroom : s.roomFor (s.outLen + data.length)) :
    storedBlock len data s = .error (raise .truncatedStream (pushAll data { s with blen := len })) := by
  have hput : putAll data { s with blen := len } = .ok (pushAll data { s with blen := len }) :=
    putAll_room (s := { s with blen := len }) hroom
  rw [storedBlock, List.take_of_length_le hlen.le]
  rw [hput]
  exact if_pos hlen

/-- Pushing bytes does not look at the reader. -/
theorem pushAll_withRpos (xs : List Byte) (n : Nat) (s : State) :
    pushAll xs { s with rpos := n } = { pushAll xs s with rpos := n } := by
  induction xs generalizing s with
  | nil => rfl
  | cons x xs ih => exact ih (push x s)

theorem storedBlock_full {len : BitVec 16} {data : List Byte} {s : State} (hlen : data.length ≤ len.toNat)
    (hmax : s.maxOut ≠ 0) (hfull : s.maxOut < s.outLen + data.length) (hne : 0 < data.length) :
    storedBlock len data s = .error (raise .outputLimitExceeded (pushAll (data.take (s.maxOut - s.outLen))
      { s with blen := len, rpos := s.rpos - (data.drop (s.maxOut - s.outLen + 1)).length })) := by
  have hput := putAll_full (s := { s with blen := len }) hmax hfull hne
  have hunread : data.length - (s.maxOut - s.outLen) - 1 = (data.drop (s.maxOut - s.outLen + 1)).length := by
    rw [List.length_drop]; omega
  have hrpos (xs : List Byte) : (pushAll xs { s with blen := len }).rpos = s.rpos := by rw [pushAll_produced xs]
  rw [storedBlock, List.take_of_length_le hlen]
  dsimp only at hput ⊢
  rw [hput]
  dsimp only
  rw [raise_withRpos, raise_rpos, hrpos, hunread, ← pushAll_withRpos]

/-- Settles O20: the bytes of the body are put one after the other, as many as there are and as the bound leaves room for. -/
theorem storedBodyCopiesItsBytes : Obligations.StoredBodyCopiesItsBytes := by
  intro pad len nlen data s hmem hfill hdata
  have hexec : exec (.storedBody pad len nlen data) s = answer (storedBlock len data s) := rfl
  rw [hexec]
  refine ⟨fun hroom hlen => ?_, fun hroom hlen => ?_, fun hmax hfull hne => ?_⟩
  · rw [storedBlock_whole hlen hroom, ← afterBlock_eq_endBlock]
    exact ⟨_, rfl, pushAll_produced data _, pushAll_outputGrewBy data (s := { s with blen := len }) hmem,
      pushAll_windowGrewBy data (s := { s with blen := len }) hmem hfill⟩
  · rw [storedBlock_cut hlen hroom]
    exact ⟨_, _, rfl, pushAll_produced data _, pushAll_windowGrewBy data (s := { s with blen := len }) hmem hfill,
      failedAs_raise .truncatedStream _⟩
  · rw [storedBlock_full hdata hmax hfull hne]
    exact ⟨_, _, rfl, pushAll_produced _ _,
      pushAll_windowGrewBy _ (s := { s with
        blen := len, rpos := s.rpos - (data.drop (s.maxOut - s.outLen + 1)).length }) hmem hfill,
      failedAs_raise .outputLimitExceeded _⟩

/-! ### Literals -/

/-- The state in which a literal puts its byte. -/
def latchLiteral (x : Byte) (s : State) : State := { s with sym := BitVec.ofNat 9 x.toNat, micro := .litLen }

/-- Settles O21: both classes of literal put their byte. -/
theorem literalsPutTheirByte : Obligations.LiteralsPutTheirByte := by
  intro x s i hi
  have hexec : exec i s = answer (put x (latchLiteral x s)) := by
    rw [latchLiteral, BitVec.ofNat_toNat]
    rcases hi with ⟨rfl, -⟩ | ⟨rfl, -⟩ <;> rfl
  rw [hexec]
  refine ⟨fun hroom => ?_, fun hmax hfull => ?_⟩
  · rw [put_room (s := latchLiteral x s) hroom]
    refine ⟨_, rfl, rfl, fun hmem => ?_, fun a ha => Memory.read_write_other x ha, fun a ha => Memory.read_write_other x ha⟩
    obtain ⟨-, hout, hwin, -, -⟩ := (memoriesOk_iff s).1 hmem
    exact ⟨Memory.read_write_same hout s.outLen x, Memory.read_write_same hwin s.wptr.toNat x⟩
  · rw [put_full (s := latchLiteral x s) hmax hfull]
    exact ⟨_, rfl, failedAs_raise .outputLimitExceeded _⟩

/-! ### Matches -/

/-- The bytes a match copies from distance `d`: each is read after the ones before it have been put (R219, R220). -/
def copiedBytes : Nat → Nat → State → List Byte
  | 0, _, _ => []
  | n + 1, d, s => s.outBuf.read (s.outLen - d) :: copiedBytes n d (push (s.outBuf.read (s.outLen - d)) s)

@[simp] theorem length_copiedBytes (n d : Nat) (s : State) : (copiedBytes n d s).length = n := by
  induction n generalizing s with
  | zero => rfl
  | succ n ih => rw [copiedBytes, List.length_cons, ih]

/-- A copy puts those bytes. -/
theorem copyBytes_eq_putAll (n d : Nat) (s : State) : copyBytes n d s = putAll (copiedBytes n d s) s := by
  induction n generalizing s with
  | zero => rfl
  | succ n ih =>
    rw [copyBytes_succ, copiedBytes, putAll_cons]
    rcases put_cases (s.outBuf.read (s.outLen - d)) s with ⟨-, hp⟩ | ⟨-, hp⟩ <;> rw [hp]
    exact ih (push _ s)

/-- A copy that ends early has copied the same bytes so far. -/
theorem take_copiedBytes {m n : Nat} (h : m ≤ n) (d : Nat) (s : State) : (copiedBytes n d s).take m = copiedBytes m d s := by
  induction m generalizing n s with
  | zero => rfl
  | succ m ih =>
    obtain ⟨n, rfl⟩ := Nat.exists_eq_add_of_lt h
    rw [copiedBytes, List.take_succ_cons, ih (by omega), copiedBytes]

/-- Each byte copied is the one `d` before it, itself perhaps just copied (R75, R220). -/
theorem pushAll_copiedBytes_read {n d : Nat} {s : State} (hmem : s.memoriesOk = true) (hpos : 1 ≤ d) (hd : d ≤ s.outLen)
    {k : Nat} (hk : k < n) : (pushAll (copiedBytes n d s) s).outBuf.read (s.outLen + k) =
      (pushAll (copiedBytes n d s) s).outBuf.read (s.outLen + k - d) := by
  induction n generalizing s k with
  | zero => exact absurd hk (Nat.not_lt_zero k)
  | succ n ih =>
    cases k with
    | zero =>
      obtain ⟨-, hbelow, hnew, -⟩ := pushAll_outputGrewBy (copiedBytes (n + 1) d s) hmem
      rw [hnew 0 (by simp), Nat.add_zero, hbelow _ (by omega)]
      rfl
    | succ k =>
      have hnext := ih (s := push (s.outBuf.read (s.outLen - d)) s) (push_memoriesOk hmem _) (Nat.le_succ_of_le hd)
        (Nat.lt_of_succ_lt_succ hk)
      rw [show s.outLen + (k + 1) = s.outLen + 1 + k by omega]
      exact hnext

/-- The element copies a match from distance `D`. -/
def CopiesFrom (i : Instr) (D : Nat) : Prop :=
  1 ≤ D ∧ ∃ j e, D = distanceOperand j e ∧ ∀ s, exec i s = answer (distanceElement j e s)

/-- The state in which a distance element copies. -/
def latchDistance (D : Nat) (s : State) : State := { s with mdist := BitVec.ofNat 16 D, micro := .litLen }

theorem CopiesFrom.exec_beyond {i : Instr} {D : Nat} (h : CopiesFrom i D) {s : State} (hback : s.outLen < D) :
    exec i s = .next (raise .invalidBackReference (latchDistance D s)) := by
  obtain ⟨-, j, e, rfl, hexec⟩ := h
  rw [hexec, distanceElement]
  exact congrArg answer (if_pos hback)

theorem CopiesFrom.exec_within {i : Instr} {D : Nat} (h : CopiesFrom i D) {s : State} (hback : D ≤ s.outLen) :
    exec i s = answer (putAll (copiedBytes s.mlen.toNat D (latchDistance D s)) (latchDistance D s)) := by
  obtain ⟨-, j, e, rfl, hexec⟩ := h
  rw [hexec, distanceElement, ← copyBytes_eq_putAll]
  exact congrArg answer (if_neg (Nat.not_lt.2 hback))

/-- The table of R157: `P` holds of every distance element and its distance. -/
def ForEveryDistance (P : Instr → Nat → Prop) : Prop :=
  P .distance0 1 ∧
  P .distance1 2 ∧
  P .distance2 3 ∧
  P .distance3 4 ∧
  (∀ e : BitVec 1, P (.distance4 e) (5 + e.toNat)) ∧
  (∀ e : BitVec 1, P (.distance5 e) (7 + e.toNat)) ∧
  (∀ e : BitVec 2, P (.distance6 e) (9 + e.toNat)) ∧
  (∀ e : BitVec 2, P (.distance7 e) (13 + e.toNat)) ∧
  (∀ e : BitVec 3, P (.distance8 e) (17 + e.toNat)) ∧
  (∀ e : BitVec 3, P (.distance9 e) (25 + e.toNat)) ∧
  (∀ e : BitVec 4, P (.distance10 e) (33 + e.toNat)) ∧
  (∀ e : BitVec 4, P (.distance11 e) (49 + e.toNat)) ∧
  (∀ e : BitVec 5, P (.distance12 e) (65 + e.toNat)) ∧
  (∀ e : BitVec 5, P (.distance13 e) (97 + e.toNat)) ∧
  (∀ e : BitVec 6, P (.distance14 e) (129 + e.toNat)) ∧
  (∀ e : BitVec 6, P (.distance15 e) (193 + e.toNat)) ∧
  (∀ e : BitVec 7, P (.distance16 e) (257 + e.toNat)) ∧
  (∀ e : BitVec 7, P (.distance17 e) (385 + e.toNat)) ∧
  (∀ e : BitVec 8, P (.distance18 e) (513 + e.toNat)) ∧
  (∀ e : BitVec 8, P (.distance19 e) (769 + e.toNat)) ∧
  (∀ e : BitVec 9, P (.distance20 e) (1025 + e.toNat)) ∧
  (∀ e : BitVec 9, P (.distance21 e) (1537 + e.toNat)) ∧
  (∀ e : BitVec 10, P (.distance22 e) (2049 + e.toNat)) ∧
  (∀ e : BitVec 10, P (.distance23 e) (3073 + e.toNat)) ∧
  (∀ e : BitVec 11, P (.distance24 e) (4097 + e.toNat)) ∧
  (∀ e : BitVec 11, P (.distance25 e) (6145 + e.toNat)) ∧
  (∀ e : BitVec 12, P (.distance26 e) (8193 + e.toNat)) ∧
  (∀ e : BitVec 12, P (.distance27 e) (12289 + e.toNat)) ∧
  (∀ e : BitVec 13, P (.distance28 e) (16385 + e.toNat)) ∧
  (∀ e : BitVec 13, P (.distance29 e) (24577 + e.toNat))

/-- Each row of the table is the machine's own. -/
theorem forEveryDistance_of_copiesFrom {P : Instr → Nat → Prop} (h : ∀ i D, CopiesFrom i D → P i D) :
    ForEveryDistance P := by
  have hrow {i : Instr} {D : Nat} (j e : Nat) (hexec : ∀ s, exec i s = answer (distanceElement j e s))
      (hdist : D = distanceOperand j e) (hpos : 1 ≤ D) : P i D := h i D ⟨hpos, j, e, hdist, hexec⟩
  refine ⟨hrow _ _ (fun _ => rfl) rfl (by omega), hrow _ _ (fun _ => rfl) rfl (by omega),
    hrow _ _ (fun _ => rfl) rfl (by omega), hrow _ _ (fun _ => rfl) rfl (by omega), ?_⟩
  and_intros <;> exact fun e => hrow _ _ (fun _ => rfl) rfl (by omega)

/-- Settles O24: with room for the whole match its bytes are put. -/
theorem distanceElementsCopyTheMatch : Obligations.DistanceElementsCopyTheMatch := by
  intro s hmem hfill P
  refine forEveryDistance_of_copiesFrom (P := P) fun i D h hback hroom => ?_
  have hput := putAll_room (xs := copiedBytes s.mlen.toNat D (latchDistance D s)) (s := latchDistance D s)
    (by rw [length_copiedBytes]; exact hroom)
  exact ⟨_, _, by rw [h.exec_within hback, hput]; rfl, length_copiedBytes _ _ _, pushAll_produced _ _,
    pushAll_outputGrewBy _ (s := latchDistance D s) hmem, pushAll_windowGrewBy _ (s := latchDistance D s) hmem hfill,
    fun k hk => pushAll_copiedBytes_read (s := latchDistance D s) hmem h.1 hback hk⟩

/-- Settles O25: the distance is tested before any byte is copied. -/
theorem distancesBeyondTheOutputAreRefused : Obligations.DistancesBeyondTheOutputAreRefused := by
  intro s P
  refine forEveryDistance_of_copiesFrom (P := P) fun i D h hback => ?_
  exact ⟨_, h.exec_beyond hback, failedAs_raise .invalidBackReference _, raise_win _ _⟩

/-- Settles O26: the bytes that fit are the match's first ones, copied in the same way. -/
theorem copiesMeetTheOutputBound : Obligations.CopiesMeetTheOutputBound := by
  intro s hmem hfill P
  refine forEveryDistance_of_copiesFrom (P := P) fun i D h hback hmax hfull hne => ?_
  have hput := putAll_full (xs := copiedBytes s.mlen.toNat D (latchDistance D s)) (s := latchDistance D s) hmax
    (by rw [length_copiedBytes]; exact hfull) (by rw [length_copiedBytes]; exact hne)
  have hfit : (latchDistance D s).maxOut - (latchDistance D s).outLen ≤ s.mlen.toNat := by
    show s.maxOut - s.outLen ≤ _; omega
  rw [take_copiedBytes hfit] at hput
  refine ⟨_, _, copiedBytes (s.maxOut - s.outLen) D (latchDistance D s), by rw [h.exec_within hback, hput]; rfl,
    length_copiedBytes _ _ _, pushAll_produced _ _, pushAll_outputGrewBy _ (s := latchDistance D s) hmem,
    pushAll_windowGrewBy _ (s := latchDistance D s) hmem hfill, failedAs_raise .outputLimitExceeded _, fun k hk => ?_⟩
  rw [length_copiedBytes] at hk
  exact pushAll_copiedBytes_read (s := latchDistance D s) hmem h.1 hback hk

/-! ### Block headers, the end of a block, lengths and reserved symbols -/

/-- Settles O19: the two types the decoder has choose the next element, the two others raise. -/
theorem blockHeadersLatchAndDispatch : Obligations.BlockHeadersLatchAndDispatch := fun _ _ =>
  ⟨rfl, rfl, ⟨_, rfl, failedAs_raise .unsupportedBlockType _⟩, ⟨_, rfl, failedAs_raise .unsupportedBlockType _⟩⟩

/-- Settles O22: the end of a block tests BFINAL, then who called the decoder; a reserved symbol raises. -/
theorem endOfBlockAndReservedSymbols : Obligations.EndOfBlockAndReservedSymbols := by
  intro s
  have heob : exec .eob s = .next (endBlock { s with sym := 256#9 }) := rfl
  refine ⟨fun hfinal => ?_, fun hfinal hzlib => ?_, fun hfinal hzlib => ?_, ?_⟩
  · exact heob.trans (congrArg _ (endBlock_notFinal (s := { s with sym := 256#9 }) hfinal))
  · exact heob.trans (congrArg _ (endBlock_final (s := { s with sym := 256#9 }) hfinal hzlib))
  · rw [heob, endBlock, if_pos hfinal, if_pos hzlib]
  · rintro i (rfl | rfl | rfl | rfl) <;> exact ⟨_, rfl, failedAs_raise .invalidSymbol s⟩

/-- Settles O23: each row of R156 is the machine's own. -/
theorem lengthElementsLatchTheLength : Obligations.LengthElementsLatchTheLength := by
  unfold Obligations.LengthElementsLatchTheLength
  and_intros <;> intros <;> rfl

end Sys2Proof.Machine
end

section
/-! PROOFS. The elements of the zlib envelope on read (45_zlib.md R243 to R247): the trailer with the sums of its pass in closed
form, and the header test. -/

namespace Sys2Proof.Machine

/-! ### The trailer -/

theorem adlerPass_sums (xs : List Byte) (s : State) :
    (adlerPass xs s).a = BitVec.ofNat 16 (Ref.adlerA xs) ∧ (adlerPass xs s).b = BitVec.ofNat 16 (Ref.adlerB xs) := by
  obtain ⟨hA, hB⟩ := adlerSteps_sums xs (s := { s with a := 1#16, b := 0#16 }) (by simp) (by simp)
  have hA' : (adlerPass xs s).a.toNat = Ref.adlerA xs := hA
  have hB' : (adlerPass xs s).b.toNat = Ref.adlerB xs := by rw [adlerPass, hB, Ref.adlerB]; simp
  rw [← hA', ← hB']
  simp only [BitVec.ofNat_toNat, BitVec.setWidth_eq, and_self]

/-- A checksum pass in closed form (46_adler32.md R266). -/
theorem adlerPass_eq (xs : List Byte) (s : State) : adlerPass xs s =
    { s with a := BitVec.ofNat 16 (Ref.adlerA xs), b := BitVec.ofNat 16 (Ref.adlerB xs) } := by
  obtain ⟨hA, hB⟩ := adlerPass_sums xs s
  rw [adlerPass_frame, hA, hB]

/-- Settles O32: the pass has the sums of the closed form, and `ChecksumMismatch` is a failure that keeps the output. -/
theorem zlibTrailerDecidesTheEnd : Obligations.ZlibTrailerDecidesTheEnd := by
  intro sum s
  have hvalue := adlerValue_adlerPass s.output s
  change execZlibAdler32 sum s = _
  unfold execZlibAdler32
  dsimp only
  rw [hvalue, adlerPass_eq]
  by_cases hsum : Ref.adler s.output = sum
  · rw [if_pos hsum, if_pos hsum]
    rfl
  · rw [if_neg hsum, if_neg hsum, raise_keeps rfl]
    rfl

/-- The trailer's bytes (45_zlib.md R243). -/
theorem be32_eq_bigEndian (v : BitVec 32) : be32 v = Ref.bigEndian v := by
  have hbyte (k : Nat) : v.extractLsb' k 8 = BitVec.ofNat 8 (v.toNat / 2 ^ k) := by
    rw [BitVec.extractLsb', Nat.shiftRight_eq_div_pow]
  rw [be32, hbyte, hbyte, hbyte, hbyte, Nat.pow_zero, Nat.div_one]
  rfl

/-! ### The header -/

theorem methodIsDeflate_iff (cmf : Byte) : methodIsDeflate cmf = true ↔ cmf &&& 0x0F#8 = 8#8 := by
  have hlow : (cmf &&& 0x0F#8).toNat = cmf.toNat % 16 := Nat.and_two_pow_sub_one_eq_mod cmf.toNat 4
  have hnibble : (cmf.extractLsb' 0 4).toNat = cmf.toNat % 16 := by simp [BitVec.extractLsb'_toNat]
  rw [methodIsDeflate, beq_iff_eq, ← BitVec.toNat_inj, ← BitVec.toNat_inj, hlow, hnibble]
  rfl

theorem fdict_iff (flg : Byte) : flg.getLsbD 5 = false ↔ flg &&& 0x20#8 = 0#8 := by
  have hbit : flg &&& 0x20#8 = if flg.getLsbD 5 then 0x20#8 else 0#8 := BitVec.and_twoPow flg 5
  rw [hbit]
  cases flg.getLsbD 5 <;> decide

/-- The machine's header test is that of 45_zlib.md R244. -/
theorem headerCheck_eq (cmf flg : Byte) : headerCheck cmf flg = Ref.headerOk cmf flg := by
  rw [Bool.eq_iff_iff, headerCheck, Ref.headerOk, Bool.and_eq_true, Bool.and_eq_true, methodIsDeflate_iff, decide_eq_true_eq,
    decide_eq_true_eq, Bool.not_eq_true', fdict_iff, and_assoc]

/-- Settles O30: each header element is its tests, and the machine's tests are those of the rule. -/
theorem zlibHeaderBytesAreChecked : Obligations.ZlibHeaderBytesAreChecked := by
  intro cmf flg s
  have hcmf : exec (.zlibCmf cmf) s = execZlibCmf cmf s := rfl
  have hflg : exec (.zlibFlg flg) s = execZlibFlg flg s := rfl
  rw [hcmf, hflg, execZlibCmf, execZlibFlg, headerCheck_eq]
  refine ⟨fun hlen => ?_, fun hlen hmethod => ?_, fun hlen hmethod => ?_, ?_⟩
  · exact ⟨_, if_pos hlen, failedAs_raise .truncatedStream s⟩
  · rw [if_neg (Nat.not_lt.2 hlen), if_neg (mt (methodIsDeflate_iff cmf).1 hmethod)]
    exact ⟨_, rfl, failedAs_raise .invalidHeader s⟩
  · rw [if_neg (Nat.not_lt.2 hlen), if_pos ((methodIsDeflate_iff cmf).2 hmethod)]
  · rintro rfl
    refine ⟨fun hbad => ?_, fun hok => if_pos hok⟩
    rw [if_neg (Bool.eq_false_iff.1 hbad)]
    exact ⟨_, rfl, failedAs_raise .invalidHeader s⟩

end Sys2Proof.Machine
end

section
/-! PROOFS. `DECOMPRESS_ZLIB` element by element (45_zlib.md R245, R246): what the decoder meets at the fixed places of the
envelope, and so how the command ends at its header or comes to its payload and its trailer. -/

namespace Sys2Proof.Machine

/-! ### Moves of the envelope -/

theorem runStream_succ {n : Nat} {s t : State} (hb : s.busy = true) (h : streamStep s = .next t) :
    runStream (n + 1) s = runStream n t := by
  rw [runStream, runWhile, if_pos hb, h]
  rfl

theorem runStream_ended {n : Nat} {s : State} (hb : s.busy = false) : runStream n s = .next s := by
  cases n with
  | zero => rfl
  | succ n => rw [runStream, runWhile, if_neg (by simp [hb])]

/-- An element of the envelope that is there is run in the state it is met in. -/
theorem streamStep_envelope {s : State} {i : Instr} {rest : List Bool} (hc : 0 < s.micro.envelopeRounds)
    (h : decodeStream s.micro s.rbit.toNat (unreadBits s) = .ok (i, rest)) : streamStep s = exec i s := by
  have hf : fetch s = .element i (moveCursor ((unreadBits s).length - rest.length) s) := by rw [fetch, h]
  obtain ⟨hi, hs⟩ := fetch_envelope hc hf
  rw [hs] at hf
  rw [streamStep, streamStepWith, hf]
  exact streamElement_eq_exec (by simp [hi]) s

theorem Memory.bytes_succ (m : Memory) (a n : Nat) : m.bytes a (n + 1) = m.read a :: m.bytes (a + 1) n := by
  simp only [Memory.bytes, List.range_succ_eq_map, List.map_cons, List.map_map, Nat.add_zero, List.cons.injEq, true_and]
  exact List.map_congr_left fun k _ => congrArg m.read (by simp only [Nat.succ_eq_add_one]; omega)

/-- The first byte of the bytes from `a` on, where there is one. -/
theorem Memory.bytes_of_pos (m : Memory) (a : Nat) {n : Nat} (h : 0 < n) :
    m.bytes a n = m.read a :: m.bytes (a + 1) (n - 1) := by
  rw [← Memory.bytes_succ, Nat.sub_add_cancel h]

/-- A started `DECOMPRESS_ZLIB` at this element of its header, or at its payload. -/
def atEnvelope (c : StreamCtx) (s : State) : State := { start s with micro := c }

@[simp] theorem atEnvelope_busy (c : StreamCtx) (s : State) : (atEnvelope c s).busy = true := start_busy s
@[simp] theorem atEnvelope_micro (c : StreamCtx) (s : State) : (atEnvelope c s).micro = c := rfl
@[simp] theorem atEnvelope_inLen (c : StreamCtx) (s : State) : (atEnvelope c s).inLen = s.inLen := rfl
@[simp] theorem atEnvelope_inBuf (c : StreamCtx) (s : State) : (atEnvelope c s).inBuf = s.inBuf := rfl

theorem streamStep_zlibCmf {s : State} (hlen : 0 < s.inLen) :
    streamStep (atEnvelope .zlibCmf s) = exec (.zlibCmf (s.inBuf.read 0)) (atEnvelope .zlibCmf s) := by
  refine streamStep_envelope (rest := bytesBits (s.inBuf.bytes 1 (s.inLen - 1))) (Nat.succ_pos 3) ?_
  rw [unreadBits, atEnvelope_micro, decodeStream]
  dsimp only [atEnvelope_inBuf, atEnvelope_inLen]
  rw [Memory.bytes_of_pos _ 0 hlen]
  exact decodeZlibByte_byteBits _ _ _

theorem streamStep_zlibFlg {s : State} (hlen : 2 ≤ s.inLen) :
    streamStep (atEnvelope .zlibFlg s) = exec (.zlibFlg (s.inBuf.read 1)) (atEnvelope .zlibFlg s) := by
  refine streamStep_envelope (rest := bytesBits (s.inBuf.bytes 2 (s.inLen - 1 - 1))) (Nat.succ_pos 2) ?_
  rw [unreadBits, atEnvelope_micro, decodeStream]
  dsimp only [atEnvelope_inBuf, atEnvelope_inLen]
  rw [Memory.bytes_of_pos _ 1 (Nat.sub_pos_of_lt hlen)]
  exact decodeZlibByte_byteBits _ _ _

theorem streamStep_zlibPayload (s : State) :
    streamStep (atEnvelope .zlibPayload s) = exec .zlibPayload (atEnvelope .zlibPayload s) :=
  streamStep_envelope (rest := []) (Nat.succ_pos 1) rfl

theorem streamStep_zlibTrailer {s : State} {v : BitVec 32} (hm : s.micro = .zlibTrailer) (hlen : 4 ≤ s.inLen)
    (hv : s.inBuf.bytes (s.inLen - 4) 4 = Ref.bigEndian v) : streamStep s = exec (.zlibAdler32 v) s := by
  have hfour : s.inLen - (s.inLen - 4) = 4 := by omega
  refine streamStep_envelope (rest := []) (by rw [hm]; decide) ?_
  rw [unreadBits, hm, decodeStream]
  dsimp only
  rw [hfour, hv, ← be32_eq_bigEndian]
  have hdecode := decodeTrailer_encode v []
  rwa [List.append_nil] at hdecode

/-! ### The header -/

/-- A move that raises ends the command. -/
theorem runStream_failed {n : Nat} {s t : State} {w : BitVec 8} (hb : s.busy = true) (hstep : streamStep s = .next t)
    (hfail : Ref.failedAs w s t) (hw : w.getLsbD 0 = false) : runStream (n + 1) s = .next t := by
  have hended : t.busy = false := by rw [State.busy, hfail]; exact hw
  rw [runStream_succ hb hstep, runStream_ended hended]

/-- Fewer than 2 bytes (R246 (1)). -/
theorem execDecompressZlib_short {s : State} (level : BitVec 4) (hlen : s.inLen < 2) :
    ∃ t, exec (.decompressZlib level) s = .next t ∧ Ref.failedAs 0x12#8 (atEnvelope .zlibCmf s) t := by
  obtain ⟨t, hstep, hfail⟩ : ∃ t, streamStep (atEnvelope .zlibCmf s) = .next t ∧
      Ref.failedAs 0x12#8 (atEnvelope .zlibCmf s) t := by
    rcases Nat.eq_zero_or_pos s.inLen with hzero | hpos
    · have hunread : unreadBits (atEnvelope .zlibCmf s) = [] := by
        rw [unreadBits, atEnvelope_micro]
        dsimp only
        rw [atEnvelope_inLen, hzero]
        rfl
      refine ⟨_, ?_, failedAs_raise .truncatedStream _⟩
      rw [streamStep, streamStepWith, fetch, hunread]
      rfl
    · rw [streamStep_zlibCmf hpos]
      exact (zlibHeaderBytesAreChecked _ 0#8 _).1 hlen
  exact ⟨t, runStream_failed (atEnvelope_busy _ s) hstep hfail rfl, hfail⟩

theorem method_of_headerOk {cmf flg : Byte} (h : Ref.headerOk cmf flg = true) : cmf &&& 0x0F#8 = 8#8 :=
  (of_decide_eq_true h).1

/-- From a method that is DEFLATE the command goes on to the second byte of its header. -/
theorem execDecompressZlib_method {s : State} (level : BitVec 4) (hlen : 2 ≤ s.inLen)
    (hmethod : s.inBuf.read 0 &&& 0x0F#8 = 8#8) :
    exec (.decompressZlib level) s = runStream 3 (atEnvelope .zlibFlg s) := by
  obtain ⟨-, -, hcmf, -⟩ := zlibHeaderBytesAreChecked (s.inBuf.read 0) 0#8 (atEnvelope .zlibCmf s)
  have hstep := streamStep_zlibCmf (Nat.lt_of_lt_of_le Nat.two_pos hlen)
  exact runStream_succ (atEnvelope_busy _ s) (hstep.trans (hcmf hlen hmethod))

/-- A bad header (R246 (2)): one of its two bytes shows it. -/
theorem execDecompressZlib_badHeader {s : State} (level : BitVec 4) (hlen : 2 ≤ s.inLen)
    (hbad : Ref.headerOk (s.inBuf.read 0) (s.inBuf.read 1) = false) :
    ∃ c t, exec (.decompressZlib level) s = .next t ∧ Ref.failedAs 0x42#8 (atEnvelope c s) t := by
  by_cases hmethod : s.inBuf.read 0 &&& 0x0F#8 = 8#8
  · obtain ⟨-, -, -, hflg⟩ := zlibHeaderBytesAreChecked (s.inBuf.read 0) (s.inBuf.read 1) (atEnvelope .zlibFlg s)
    obtain ⟨t, ht, hfail⟩ := (hflg rfl).1 hbad
    rw [execDecompressZlib_method level hlen hmethod]
    exact ⟨_, t, runStream_failed (atEnvelope_busy _ s) ((streamStep_zlibFlg hlen).trans ht) hfail rfl, hfail⟩
  · obtain ⟨-, hcmf, -, -⟩ := zlibHeaderBytesAreChecked (s.inBuf.read 0) 0#8 (atEnvelope .zlibCmf s)
    obtain ⟨t, ht, hfail⟩ := hcmf hlen hmethod
    have hstep := streamStep_zlibCmf (Nat.lt_of_lt_of_le Nat.two_pos hlen)
    exact ⟨_, t, runStream_failed (atEnvelope_busy _ s) (hstep.trans ht) hfail rfl, hfail⟩

/-- An acceptable header brings the command to its payload. -/
theorem execDecompressZlib_header {s : State} (level : BitVec 4) (hlen : 2 ≤ s.inLen)
    (hok : Ref.headerOk (s.inBuf.read 0) (s.inBuf.read 1) = true) :
    exec (.decompressZlib level) s = runStream 2 (atEnvelope .zlibPayload s) := by
  obtain ⟨-, -, -, hflg⟩ := zlibHeaderBytesAreChecked (s.inBuf.read 0) (s.inBuf.read 1) (atEnvelope .zlibFlg s)
  rw [execDecompressZlib_method level hlen (method_of_headerOk hok)]
  exact runStream_succ (atEnvelope_busy _ s) ((streamStep_zlibFlg hlen).trans ((hflg rfl).2 hok))

/-! ### The payload -/

/-- The DEFLATE decoder where `DECOMPRESS_ZLIB` calls it (R245): its reader set on the payload. -/
def atPayload (s : State) : State := atFirstBlock true { s with rbase := 2, rend := s.inLen - 4, rpos := 2, rbit := 0#3 }

theorem execZlibPayload_short {s : State} (hlen : s.inLen < 6) : exec .zlibPayload s = .next (raise .truncatedStream s) :=
  if_pos hlen

theorem execZlibPayload_eq {s : State} (hlen : 6 ≤ s.inLen) : exec .zlibPayload s = inflate (atPayload s) :=
  if_neg (Nat.not_lt.2 hlen)

/-- Fewer than 6 bytes (R246 (3)). -/
theorem execDecompressZlib_noTrailer {s : State} (level : BitVec 4) (hlen : 2 ≤ s.inLen) (hshort : s.inLen < 6)
    (hok : Ref.headerOk (s.inBuf.read 0) (s.inBuf.read 1) = true) :
    ∃ t, exec (.decompressZlib level) s = .next t ∧ Ref.failedAs 0x12#8 (atEnvelope .zlibPayload s) t := by
  have hfail := failedAs_raise .truncatedStream (atEnvelope .zlibPayload s)
  rw [execDecompressZlib_header level hlen hok]
  have hstep := (streamStep_zlibPayload s).trans (execZlibPayload_short (s := atEnvelope .zlibPayload s) hshort)
  exact ⟨_, runStream_failed (atEnvelope_busy _ s) hstep hfail rfl, hfail⟩

/-- Otherwise the DEFLATE decoder runs over the payload (R246 (4)). -/
theorem execDecompressZlib_payload {s u : State} (level : BitVec 4) (hlen : 6 ≤ s.inLen)
    (hok : Ref.headerOk (s.inBuf.read 0) (s.inBuf.read 1) = true) (hu : inflate (atPayload (start s)) = .next u) :
    exec (.decompressZlib level) s = runStream 1 u := by
  rw [execDecompressZlib_header level (Nat.le_trans (by decide) hlen) hok]
  have hstep := (streamStep_zlibPayload s).trans (execZlibPayload_eq (s := atEnvelope .zlibPayload s) hlen)
  exact runStream_succ (atEnvelope_busy _ s) (hstep.trans hu)

/-- Where the DEFLATE decoder returns, the trailer ends the command (R246 (5)). -/
theorem execDecompressZlib_trailer {s u : State} {v : BitVec 32} (level : BitVec 4) (hlen : 6 ≤ s.inLen)
    (hok : Ref.headerOk (s.inBuf.read 0) (s.inBuf.read 1) = true) (hu : inflate (atPayload (start s)) = .next u)
    (hb : u.busy = true) (hv : s.inBuf.bytes (s.inLen - 4) 4 = Ref.bigEndian v) :
    exec (.decompressZlib level) s = exec (.zlibAdler32 v) u := by
  obtain ⟨-, t, ht, -, hend⟩ := inflate_reaches (s := atPayload (start s)) rfl
  cases hu.symm.trans ht
  obtain ⟨-, hinLen, -, hinBuf⟩ := (hostInputs_eq_iff _ _).1 (inflate_decoderEnd hu).hostInputs
  have hlen' : u.inLen = s.inLen := hinLen
  have hbuf' : u.inBuf = s.inBuf := hinBuf
  have hstep := streamStep_zlibTrailer (hend hb).2 (v := v) (by omega) (by rw [hlen', hbuf', hv])
  rw [execDecompressZlib_payload level hlen hok hu, ← hstep]
  obtain ⟨t, ht, -⟩ := execZlibAdler32_next v u
  rw [hstep]
  exact (runStream_succ hb (hstep.trans ht)).trans ht.symm

end Sys2Proof.Machine
end

section
/-! PROOFS. `DECOMPRESS_ZLIB` of a well-formed envelope (45_zlib.md R245, R247): the DEFLATE decoder over the payload alone,
then the trailer's judgement. -/

namespace Sys2Proof.Machine

/-! ### The payload -/

/-- The decoder called for the payload of `s` has come to the end of its stream, with the output `out`, and has returned. -/
structure PayloadDecoded (out : List Byte) (s u : State) : Prop where
  run : inflate (atPayload s) = .next u
  moves : Decodes (atPayload s) u
  running : u.busy = true
  next : u.micro = .zlibTrailer
  caller : u.zlib = true
  final : u.bfinal = 1#1
  produced : u.output = out
  outLen : u.outLen = out.length

theorem endBlock_finalZlib {s : State} (hfinal : s.bfinal = 1#1) (hzlib : s.zlib = true) :
    endBlock s = { s with micro := .zlibTrailer } := by
  rw [endBlock, if_pos hfinal, if_pos hzlib]

theorem atPayload_readyAt {s : State} (hb : s.busy = true) (hwf : s.outBuf.wf = true) :
    ReadyAt .blockHeader (bytesBits (s.inBuf.bytes 2 (s.inLen - 6))) s.output (atPayload s) :=
  ⟨hb, rfl, rfl, hwf, rfl⟩

/-- The payload is decoded to the end of its stream, whatever follows it there (R214). -/
theorem payloadDecoded {blocks : List Ref.Block} {tail : List Bool} {out : List Byte} {s : State} (hb : s.busy = true)
    (hwf : s.outBuf.wf = true) (hne : blocks ≠ []) (hok : Ref.streamOk 0 blocks = true)
    (hbits : bytesBits (s.inBuf.bytes 2 (s.inLen - 6)) = Ref.streamBits blocks ++ tail)
    (hexp : Ref.expand s.output blocks = some out) (hroom : s.roomFor out.length) : ∃ u, PayloadDecoded out s u := by
  have halign : (0 + (Ref.streamBits blocks ++ tail).length) % 8 = 0 := by rw [← hbits, length_bytesBits]; omega
  obtain ⟨c, v, hv, hfinal, hready⟩ :=
    (hbits ▸ atPayload_readyAt hb hwf).stream hne hok halign hexp (s := atPayload s) hroom
  have hzlib : v.zlib = true := (goesOn_endBlock (s := v) rfl rfl).1.symm.trans hv.kept.1
  have hrun := inflate_eq_of_rounds rfl hv (inflating_endBlock_final hfinal)
  rw [endBlock_finalZlib hfinal hzlib] at hrun
  exact ⟨_, hrun, (inflate_decoderEnd hrun).decodes_of_busy hready.running, hready.running, rfl, hzlib, hfinal,
    hready.produced, hready.outLen⟩

/-- The reader's bounds stay those of the payload (10_state.md R32). -/
theorem PayloadDecoded.bounds {out : List Byte} {s u : State} (h : PayloadDecoded out s u) :
    u.rbase = 2 ∧ u.rend = s.inLen - 4 := by
  have hbounds : u.readerBounds = (true, 2, s.inLen - 4) := by rcases h.moves.readerBounds with h' | h' <;> exact h'
  exact ⟨congrArg (·.2.1) hbounds, congrArg (·.2.2) hbounds⟩

/-- All that decoding the payload changes. -/
theorem PayloadDecoded.frame {out : List Byte} {s u : State} (h : PayloadDecoded out s u) : u = { s with
    outBuf := u.outBuf, outLen := u.outLen, win := u.win, wptr := u.wptr, wfill := u.wfill,
    rbase := u.rbase, rend := u.rend, rpos := u.rpos, rbit := u.rbit, bfinal := 1#1, btype := u.btype, sym := u.sym, mlen := u.mlen,
    mdist := u.mdist, blen := u.blen, micro := u.micro, zlib := true } := by
  have hframe := h.moves.onlyDecoder
  rw [onlyDecoder, h.final, h.caller] at hframe
  exact hframe

theorem atPayload_dataOk {s : State} (h : s.dataOk) : (atPayload s).dataOk := h

/-- Settles O31: the DEFLATE decoder on the payload's bits, and what its moves leave alone. -/
theorem zlibPayloadIsInflated : Obligations.ZlibPayloadIsInflated := by
  intro s hinv hb
  refine ⟨fun hlen => ⟨_, execZlibPayload_short hlen, failedAs_raise .truncatedStream s⟩, ?_⟩
  intro blocks tail out hlen hne hok hbits hexp hroom
  obtain ⟨-, hdata, -⟩ := (inv_iff s).1 hinv
  obtain ⟨-, hwf, -, hbelow, -⟩ := (memoriesOk_iff s).1 hdata.1
  obtain ⟨u, hu⟩ := payloadDecoded hb hwf hne hok hbits hexp hroom
  obtain ⟨hbase, hend⟩ := hu.bounds
  obtain ⟨-, -, -, hbelow', -⟩ := (memoriesOk_iff u).1 (hu.moves.dataOk (atPayload_dataOk hdata)).1
  have hgrown : s.outLen ≤ out.length := by
    have hle := length_le_of_foldlM (fun _ _ _ => length_le_of_blockExpand) hexp
    rwa [State.output, Memory.length_bytes] at hle
  refine ⟨u, (execZlibPayload_eq hlen).trans hu.run, hu.running, hu.next, hu.produced, hu.outLen, hbase, hend, ?_, hu.frame⟩
  intro a ha
  rw [Memory.read_beyond hbelow' (hu.outLen.trans_le ha), Memory.read_beyond hbelow (hgrown.trans ha)]

/-! ### The envelope -/

theorem input_slice {s : State} {a n : Nat} (h : a + n ≤ s.inLen) : s.inBuf.bytes a n = (s.input.drop a).take n := by
  rw [State.input, Memory.bytes_drop, Memory.bytes_take, Nat.zero_add, Nat.min_eq_left (by omega)]

/-- Where the parts of an envelope lie in `IN` (R245). -/
theorem envelope_parts {s : State} {cmf flg : Byte} {payload : List Byte} {v : BitVec 32}
    (h : s.input = [cmf, flg] ++ payload ++ Ref.bigEndian v) :
    s.inLen = payload.length + 6 ∧ s.inBuf.read 0 = cmf ∧ s.inBuf.read 1 = flg ∧
      s.inBuf.bytes 2 (s.inLen - 6) = payload ∧ s.inBuf.bytes (s.inLen - 4) 4 = Ref.bigEndian v := by
  have hlen : s.inLen = payload.length + 6 := by
    rw [← length_input, h]
    simp [Ref.bigEndian]
  have hheader : s.inBuf.bytes 0 2 = [cmf, flg] := by rw [input_slice (by omega), h]; rfl
  obtain ⟨hcmf, hflg⟩ : s.inBuf.read 0 = cmf ∧ s.inBuf.read 1 = flg := by simpa [Memory.bytes, List.range_succ] using hheader
  refine ⟨hlen, hcmf, hflg, ?_, ?_⟩
  · rw [input_slice (by omega), h, hlen]
    exact List.take_left
  · rw [input_slice (by omega), h, hlen]
    have hdrop : ([cmf, flg] ++ payload).length = payload.length + 6 - 4 := by simp
    rw [List.drop_left' hdrop]
    rfl

/-- `DECOMPRESS_ZLIB` of a well-formed envelope: the payload decoded, then the trailer (R245). -/
theorem execDecompressZlib_expands {s : State} {cmf flg : Byte} {payload : List Byte} {v : BitVec 32}
    {blocks : List Ref.Block} {tail : List Bool} {out : List Byte} (level : BitVec 4) (hheader : Ref.headerOk cmf flg = true)
    (hinput : s.input = [cmf, flg] ++ payload ++ Ref.bigEndian v) (hne : blocks ≠ []) (hok : Ref.streamOk 0 blocks = true)
    (hbits : bytesBits payload = Ref.streamBits blocks ++ tail) (hexp : Ref.expand [] blocks = some out)
    (hroom : s.roomFor out.length) : ∃ u, PayloadDecoded out (start s) u ∧ exec (.decompressZlib level) s = .next { u with
      a := BitVec.ofNat 16 (Ref.adlerA out), b := BitVec.ofNat 16 (Ref.adlerB out), result := Ref.adler out,
      status := if Ref.adler out = v then 0x06#8 else 0x52#8 } := by
  obtain ⟨hlen, hcmf, hflg, hpayload, htrailer⟩ := envelope_parts hinput
  have hbits' : bytesBits ((start s).inBuf.bytes 2 ((start s).inLen - 6)) = Ref.streamBits blocks ++ tail := by
    rw [start_inBuf, start_inLen, hpayload, hbits]
  obtain ⟨u, hu⟩ := payloadDecoded (start_busy s) rfl hne hok hbits' hexp hroom
  refine ⟨u, hu, ?_⟩
  rw [execDecompressZlib_trailer level (by omega) (by rw [hcmf, hflg, hheader]) hu.run hu.running htrailer,
    zlibTrailerDecidesTheEnd v u, hu.produced]

/-- Settles O35: the run to the trailer, and what the decoder's moves leave alone. -/
theorem decompressZlibExpandsStreams : Obligations.DecompressZlibExpandsStreams := by
  intro s level cmf flg payload v blocks tail out hmem hheader hinput hne hok hbits hexp hroom
  obtain ⟨u, hu, hrun⟩ := execDecompressZlib_expands level hheader hinput hne hok hbits hexp hroom
  have hstart : (atPayload (start s)).dataOk := atPayload_dataOk (start_dataOk_of_memoriesOk hmem)
  have houtBuf := outBuf_eq_ofBytes_output (hu.moves.dataOk hstart).1
  have hbeyond := hu.moves.win_beyond (old := s.win) hstart (start_windowOk s) fun _ _ => rfl
  obtain ⟨hbase, hend⟩ := hu.bounds
  have hframe := hu.frame
  rw [hbase, hend, start_inLen] at hframe
  rw [hu.produced] at houtBuf
  rw [hu.outLen] at hbeyond
  refine ⟨_, hrun, if_congr eq_comm rfl rfl, hu.produced, hu.outLen, rfl, houtBuf, hbeyond, ?_⟩
  exact congrArg (fun w : State => { w with
    a := BitVec.ofNat 16 (Ref.adlerA out), b := BitVec.ofNat 16 (Ref.adlerB out), result := Ref.adler out,
    status := if Ref.adler out = v then 0x06#8 else 0x52#8 }) hframe

end Sys2Proof.Machine
end

section
/-! PROOFS. `COMPRESS_ZLIB` is `COMPRESS` behind two bytes (45_zlib.md R242): the encoder sees `OUT` through its appends alone,
so what it does is the same wherever in `OUT` it begins. -/

namespace Sys2Proof.Machine

/-! ### A memory behind a byte sequence -/

/-- The memory with every byte `n` addresses further on. -/
def Memory.shift (n : Nat) (m : Memory) : Memory := m.map fun cell => (n + cell.1, cell.2)

/-- The memory `m` with the bytes `xs` in front of it. -/
def Memory.behind (xs : List Byte) (m : Memory) : Memory := Memory.ofBytes xs ++ m.shift xs.length

theorem Memory.shift_cell (n a : Nat) (x : Byte) (m : Memory) :
    (Memory.cell a x m).shift n = Memory.cell (n + a) x (m.shift n) := by
  unfold Memory.cell
  split <;> rfl

theorem Memory.write_shift (n a : Nat) (x : Byte) (m : Memory) : (m.shift n).write (n + a) x = (m.write a x).shift n := by
  induction m with
  | nil => exact (Memory.shift_cell n a x []).symm
  | cons cell rest ih =>
    obtain ⟨k, v⟩ := cell
    have hcons (m : Memory) : Memory.shift n ((k, v) :: m) = (n + k, v) :: m.shift n := rfl
    rw [hcons, Memory.write, Memory.write]
    simp only [Nat.add_lt_add_iff_left, Nat.add_left_cancel_iff, ih, ← hcons, ← Memory.shift_cell,
      apply_ite (Memory.shift n)]

/-- A write at an address beyond bytes in front leaves them as they are. -/
theorem Memory.write_append {a b : Nat} (x : Byte) {xs : List Byte} (h : a + xs.length ≤ b) (m : Memory) :
    Memory.write (Memory.ofBytesFrom a xs ++ m) b x = Memory.ofBytesFrom a xs ++ m.write b x := by
  induction xs generalizing a with
  | nil => rfl
  | cons y ys ih =>
    rw [List.length_cons] at h
    have hrest := ih (a := a + 1) (by omega)
    rw [Memory.ofBytesFrom, Memory.cell]
    split
    · exact hrest
    · rw [List.cons_append, Memory.write, if_neg (by omega), if_neg (by omega), hrest]
      rfl

theorem Memory.write_behind (xs : List Byte) (m : Memory) (a : Nat) (x : Byte) :
    (m.behind xs).write (xs.length + a) x = (m.write a x).behind xs := by
  rw [Memory.behind, Memory.ofBytes, Memory.write_append x (by omega), Memory.write_shift]
  rfl

theorem Memory.cell_append (a : Nat) (x : Byte) (m m' : Memory) : Memory.cell a x m ++ m' = Memory.cell a x (m ++ m') := by
  unfold Memory.cell
  split <;> rfl

theorem Memory.shift_ofBytesFrom (n a : Nat) (xs : List Byte) :
    (Memory.ofBytesFrom a xs).shift n = Memory.ofBytesFrom (n + a) xs := by
  induction xs generalizing a with
  | nil => rfl
  | cons x xs ih => rw [Memory.ofBytesFrom, Memory.shift_cell, ih]; rfl

theorem Memory.ofBytesFrom_append (a : Nat) (xs ys : List Byte) :
    Memory.ofBytesFrom a (xs ++ ys) = Memory.ofBytesFrom a xs ++ Memory.ofBytesFrom (a + xs.length) ys := by
  induction xs generalizing a with
  | nil => rfl
  | cons x xs ih =>
    rw [List.cons_append, Memory.ofBytesFrom, ih, Memory.ofBytesFrom, Memory.cell_append, List.length_cons, Nat.add_assoc,
      Nat.add_comm 1]

theorem Memory.ofBytes_behind (xs ys : List Byte) : (Memory.ofBytes ys).behind xs = Memory.ofBytes (xs ++ ys) := by
  rw [Memory.behind, Memory.ofBytes, Memory.ofBytes, Memory.shift_ofBytesFrom, Memory.ofBytes, Memory.ofBytesFrom_append,
    Nat.zero_add]
  rfl

/-! ### The encoder behind a byte sequence -/

/-- The state with the bytes `xs` in front of its output. -/
def State.behind (xs : List Byte) (s : State) : State :=
  { s with outBuf := s.outBuf.behind xs, outLen := xs.length + s.outLen }

section

variable (xs : List Byte)

/-! An operation that commutes with `State.behind xs` does the same behind `xs` as in front of nothing. -/

theorem behind_ite {p : State → Prop} [DecidablePred p] {f g : State → State} (hp : ∀ s, p (s.behind xs) ↔ p s)
    (hf : Function.Commute f (State.behind xs)) (hg : Function.Commute g (State.behind xs)) :
    Function.Commute (fun s => if p s then f s else g s) (State.behind xs) := fun s => by
  simp only [hp, hf s, hg s, apply_ite (State.behind xs)]

theorem append_behind (x : Byte) : Function.Commute (append x) (State.behind xs) := fun s =>
  congrArg (fun m => { s with outBuf := m, outLen := xs.length + s.outLen + 1 }) (Memory.write_behind xs s.outBuf s.outLen x)

theorem appendAll_behind (ys : List Byte) : Function.Commute (appendAll ys) (State.behind xs) := by
  induction ys with
  | nil => exact fun _ => rfl
  | cons y ys ih => exact ih.comp_left (append_behind xs y)

/-- A whole byte written, the accumulator cleared. -/
theorem appendByte_behind (x : Byte) :
    Function.Commute (fun s => { append x s with wacc := 0#8, wcnt := 0#3 }) (State.behind xs) := fun s =>
  congrArg (fun t : State => { t with wacc := 0#8, wcnt := 0#3 }) (append_behind xs x s)

theorem writeBit_behind (bit : Bool) : Function.Commute (writeBit bit) (State.behind xs) :=
  behind_ite xs (p := fun s => s.wcnt = 7#3) (fun _ => Iff.rfl) (fun s => appendByte_behind xs _ s) fun _ => rfl

theorem flush_behind : Function.Commute flush (State.behind xs) :=
  behind_ite xs (p := fun s => s.wcnt = 0#3) (fun _ => Iff.rfl) (fun _ => rfl) fun s => appendByte_behind xs _ s

theorem writeBitList_behind (bits : List Bool) : Function.Commute (writeBitList bits) (State.behind xs) := by
  induction bits with
  | nil => exact fun _ => rfl
  | cons b bits ih => exact ih.comp_left (writeBit_behind xs b)

theorem advance_behind (n : Nat) : Function.Commute (advance n) (State.behind xs) := by
  induction n with
  | zero => exact fun _ => rfl
  | succ n ih =>
    intro s
    exact ih { winPush (s.inBuf.read s.ipos) s with ipos := s.ipos + 1 }

theorem symbolRound_behind : Function.Commute symbolRound (State.behind xs) := by
  intro s
  have hround (bits : List Bool) (n : Nat) : advance n (writeBitList bits ((findMatch s.ipos s).behind xs)) =
      (advance n (writeBitList bits (findMatch s.ipos s))).behind xs :=
    ((advance_behind xs n).comp_left (writeBitList_behind xs bits)) (findMatch s.ipos s)
  have hliteral (x : Byte) (t : State) : emitLiteral x t = writeBitList (litLenBits x.toNat) t := rfl
  have hfind : findMatch (s.behind xs).ipos (s.behind xs) = (findMatch s.ipos s).behind xs := rfl
  unfold symbolRound
  simp only [hfind, emitMatch_eq, hliteral, apply_ite (State.behind xs), ← hround]
  rfl

theorem compressFixedLoop_behind (fuel : Nat) : Function.Commute (compressFixedLoop fuel) (State.behind xs) := by
  induction fuel with
  | zero => exact fun _ => rfl
  | succ fuel ih =>
    intro s
    rw [compressFixedLoop_succ, compressFixedLoop_succ, symbolRound_behind, ih, apply_ite (State.behind xs)]
    rfl

theorem compressFixed_behind : Function.Commute compressFixed (State.behind xs) := by
  intro s
  have hheader : fixedHeader (s.behind xs) = (fixedHeader s).behind xs :=
    congrArg atInputStart (writeBitList_behind xs [true, true, false] s)
  have hlen : (s.behind xs).inLen = s.inLen := rfl
  rw [compressFixed_eq, compressFixed_eq, hheader, hlen, compressFixedLoop_behind, writeBitList_behind, flush_behind]

/-- The encoder, begun with an empty writer, does the same behind any bytes. -/
theorem compressBody_behind (level : BitVec 4) {s : State} (h : WriterEmpty s) :
    compressBody level (s.behind xs) = (compressBody level s).behind xs := by
  unfold compressBody
  split
  · rw [compressStored_eq h, compressStored_eq (s := s.behind xs) h]
    exact congrArg (fun t : State => { t with ipos := s.inLen }) (appendAll_behind xs (Ref.storedStream s.input) s)
  · exact compressFixed_behind xs s

end

/-! ### `OUT` in canonical form -/

/-- `OUT` lists the output and nothing else. -/
def State.outCanonical (s : State) : Prop := s.outBuf = Memory.ofBytes s.output

theorem append_outCanonical {s : State} (h : s.outCanonical) (x : Byte) : (append x s).outCanonical := by
  have hwf : s.outBuf.wf = true := by rw [h]; exact Memory.wf_ofBytes _
  have hlen : s.output.length = s.outLen := Memory.length_bytes _ _ _
  rw [State.outCanonical, output_append hwf, ← Memory.write_ofBytes, ← h, hlen]
  rfl

theorem writeBit_outCanonical {s : State} (h : s.outCanonical) (bit : Bool) : (writeBit bit s).outCanonical := by
  unfold writeBit
  dsimp only
  split
  · exact append_outCanonical h _
  · exact h

theorem flush_outCanonical {s : State} (h : s.outCanonical) : (flush s).outCanonical := by
  unfold flush
  split
  · exact h
  · exact append_outCanonical h _

theorem EncoderMove.outCanonical {s t : State} (h : EncoderMove s t) (hs : s.outCanonical) : t.outCanonical := by
  cases h with
  | append x => exact append_outCanonical hs x
  | writeBit bit => exact writeBit_outCanonical hs bit
  | flush => exact flush_outCanonical hs
  | push | emptyWindow | sum | clearSums => exact hs
  | registers h => rw [h]; exact hs

theorem Encodes.outCanonical {s t : State} (h : Encodes s t) (hs : s.outCanonical) : t.outCanonical := by
  induction h with
  | refl => exact hs
  | tail _ hmove ih => exact hmove.outCanonical ih

/-! ### The obligation -/

/-- The header's two bytes in front of an output that is still empty (R241). -/
theorem start_behind (s : State) :
    append Rom.zlibFlg (append Rom.zlibCmf (start s)) = (start s).behind [0x78#8, 0x9C#8] := rfl

/-- Bytes appended to an output that stands behind others. -/
theorem appendAll_behind_eq (xs : List Byte) {s : State} (h : s.outCanonical) (ys : List Byte) : appendAll ys (s.behind xs) =
    { s with outBuf := Memory.ofBytes (xs ++ s.output ++ ys), outLen := (xs ++ s.output ++ ys).length } := by
  have hlen : (s.behind xs).outLen = (xs ++ s.output).length := by
    rw [List.length_append, State.output, Memory.length_bytes]; rfl
  have hbuf : (s.behind xs).outBuf = Memory.ofBytes (xs ++ s.output) := by
    rw [← Memory.ofBytes_behind, ← h]; rfl
  rw [appendAll_frame, appendAll_outBuf hbuf hlen, hlen, List.length_append (as := xs ++ s.output)]
  rfl

/-- The envelope around a payload, with the checksum of `data` (R242). -/
def envelopeOf (payload data : List Byte) : List Byte := [0x78#8, 0x9C#8] ++ payload ++ Ref.bigEndian (Ref.adler data)

theorem length_envelopeOf (payload data : List Byte) : (envelopeOf payload data).length = payload.length + 6 := by
  rw [envelopeOf, List.length_append, List.length_append, Nat.add_comm [0x78#8, 0x9C#8].length, Nat.add_assoc]
  rfl

/-- The state with its output put into an envelope, and the checksum of `data` in the registers it leaves it in. -/
def State.enveloped (data : List Byte) (s : State) : State :=
  { s with
    outBuf := Memory.ofBytes (envelopeOf s.output data), outLen := (envelopeOf s.output data).length,
    result := Ref.adler data, a := BitVec.ofNat 16 (Ref.adlerA data), b := BitVec.ofNat 16 (Ref.adlerB data) }

/-- `COMPRESS_ZLIB` puts what `COMPRESS` leaves into an envelope (R242). -/
theorem execCompressZlib_eq (level : BitVec 4) (s : State) :
    exec (.compressZlib level) s = .next (succeed ((compressBody level (start s)).enveloped s.input)) := by
  have hbody := (encodes_compressBody level (start s)).outCanonical rfl
  have hvalue := adlerValue_adlerPass s.input (compressBody level (append Rom.zlibFlg (append Rom.zlibCmf (start s))))
  change execCompressZlib level s = _
  rw [execCompressZlib]
  dsimp only
  rw [hvalue, adlerPass_eq, start_behind, compressBody_behind _ level ⟨rfl, rfl⟩, be32_eq_bigEndian]
  generalize compressBody level (start s) = u at *
  have happend := appendAll_behind_eq [0x78#8, 0x9C#8] (s := { u with
    a := BitVec.ofNat 16 (Ref.adlerA s.input), b := BitVec.ofNat 16 (Ref.adlerB s.input) }) hbody
    (Ref.bigEndian (Ref.adler s.input))
  exact congrArg (fun t : State => (Host.Outcome.next (succeed { t with result := Ref.adler s.input }) : Answer)) happend

/-- Settles O33: the encoder between the header and the checksum does what `COMPRESS` does. -/
theorem compressZlibWrapsCompress : Obligations.CompressZlibWrapsCompress := by
  intro s level _
  have hout : (succeed ((compressBody level (start s)).enveloped s.input)).output =
      envelopeOf (compressBody level (start s)).output s.input := Memory.bytes_ofBytes _
  refine ⟨_, _, execCompressZlib_eq level s, rfl, rfl, hout, ?_, congrArg Memory.ofBytes hout.symm, rfl, rfl⟩
  exact (length_envelopeOf _ _).trans (congrArg (· + 6) (Memory.length_bytes _ _ _))

end Sys2Proof.Machine
end

section
/-! PROOFS. `DECOMPRESS_ZLIB` undoes `COMPRESS_ZLIB` (45_zlib.md R248): the payload between header and trailer is a well-formed
stream of the input, whatever trailer follows it. -/

namespace Sys2Proof.Machine

/-- The payload of what `COMPRESS_ZLIB` wrote. -/
theorem execCompressZlib_payload {level : BitVec 4} {s t : State} (h : exec (.compressZlib level) s = .next t) :
    ∃ payload, t.output = envelopeOf payload s.input ∧ t.outLen = (envelopeOf payload s.input).length ∧
      StreamOf s.input payload := by
  cases h.symm.trans (execCompressZlib_eq level s)
  exact ⟨_, Memory.bytes_ofBytes _, rfl, execCompress_streamOf (t := succeed (compressBody level (start s))) rfl⟩

/-- `DECOMPRESS_ZLIB` of the header `COMPRESS_ZLIB` writes, a stream of `data` and any trailer. -/
theorem execDecompressZlib_streamOf {r : State} {payload data : List Byte} {v : BitVec 32} (level : BitVec 4)
    (hstream : StreamOf data payload) (hinput : r.input = [0x78#8, 0x9C#8] ++ payload ++ Ref.bigEndian v)
    (hroom : r.roomFor data.length) : ∃ u, exec (.decompressZlib level) r = .next u ∧
      u.status = (if Ref.adler data = v then 0x06#8 else 0x52#8) ∧ u.output = data ∧ u.result = Ref.adler data := by
  obtain ⟨blocks, tail, hne, hok, hbits, hexp⟩ := hstream
  obtain ⟨u, hu, hrun⟩ := execDecompressZlib_expands level (by decide) hinput hne hok hbits hexp hroom
  exact ⟨_, hrun, rfl, hu.produced, rfl⟩

/-- Settles O36: the encoder's payload expands to the input, and the trailer alone decides how the decoder ends. -/
theorem zlibRoundTrip : Obligations.ZlibRoundTrip := by
  intro s t r level level' _ hcompress hroom
  obtain ⟨payload, hout, hlen, hstream⟩ := execCompressZlib_payload hcompress
  have hroom' : r.roomFor s.input.length := hroom.imp_right (length_input s).trans_le
  refine ⟨fun hinput => ?_, fun v hv hinput => ?_⟩
  · rw [hout] at hinput
    obtain ⟨u, hu, hstatus, houtput, hresult⟩ := execDecompressZlib_streamOf level' hstream hinput hroom'
    exact ⟨u, hu, hstatus.trans (if_pos rfl), houtput, hresult⟩
  · have htake : t.output.take (t.outLen - 4) = [0x78#8, 0x9C#8] ++ payload := by
      rw [hout, hlen, envelopeOf, List.length_append]
      exact List.take_left
    rw [htake] at hinput
    obtain ⟨u, hu, hstatus, houtput, -⟩ := execDecompressZlib_streamOf level' hstream hinput hroom'
    exact ⟨u, hu, hstatus.trans (if_neg hv.symm), houtput⟩

end Sys2Proof.Machine
end

section
/-! PROOFS. `DECOMPRESS_ZLIB` makes of its payload what `DECOMPRESS` makes of the same bytes as its whole input (45_zlib.md R245,
R246 (4)): two decoders that have the same bits before them do the same, element by element, wherever in `IN` these bits
lie and whatever the window holds. -/

namespace Sys2Proof.Machine

/-! ### Two decoders side by side -/

/-- The decoder of `DECOMPRESS` in `r` and that of `DECOMPRESS_ZLIB` in `s` both run, read `c` next, and agree on everything a
decoder reads before it sets it. -/
structure Alike (c : StreamCtx) (r s : State) : Prop where
  running : r.busy = true ∧ s.busy = true
  next : r.micro = c ∧ s.micro = c
  caller : r.zlib = false ∧ s.zlib = true
  unread : readerBits r = readerBits s
  rbit : r.rbit = s.rbit
  outBuf : r.outBuf = s.outBuf
  outLen : r.outLen = s.outLen
  maxOut : r.maxOut = s.maxOut
  bfinal : c ≠ .blockHeader → r.bfinal = s.bfinal
  mlen : c = .distance → r.mlen = s.mlen

/-- Where an element, or a run of them, has brought the two decoders. -/
inductive EndsAlike (r s : State) : Prop
  /-- Both go on. -/
  | running {c : StreamCtx} (hc : c.readsBits = true) (h : Alike c r s)
  /-- `DECOMPRESS` has succeeded, and `DECOMPRESS_ZLIB` is at its trailer, with the same output. -/
  | returned (hr : r.status = statusSucceeded) (hs : s.busy = true) (hbuf : r.outBuf = s.outBuf) (hlen : r.outLen = s.outLen)
    (hm : s.micro = .zlibTrailer)
  /-- Both have failed, for the same reason. -/
  | failed (k : ErrorKind) (hk : k.keepsOut = false) (hr : r.status = statusFailed k) (hs : s.status = statusFailed k)

theorem EndsAlike.of_raise {k : ErrorKind} (hk : k.keepsOut = false) (r s : State) : EndsAlike (raise k r) (raise k s) :=
  .failed k hk (raise_status k r) (raise_status k s)

/-- How putting bytes ends on both sides: both go on, or both have met the output bound. -/
inductive FlowsAlike (c : StreamCtx) : Flow → Flow → Prop
  | ok {r s : State} (h : Alike c r s) : FlowsAlike c (.ok r) (.ok s)
  | full (r s : State) : FlowsAlike c (.error (raise .outputLimitExceeded r)) (.error (raise .outputLimitExceeded s))

theorem FlowsAlike.endsAlike {c : StreamCtx} (hc : c.readsBits = true) {f g : Flow} (h : FlowsAlike c f g) :
    EndsAlike f.state g.state := by
  cases h with
  | ok h => exact .running hc h
  | full r s => exact .of_raise rfl r s

/-! ### Putting bytes -/

theorem Alike.push {c : StreamCtx} {r s : State} (h : Alike c r s) (x : Byte) :
    Alike c (winPush x (append x r)) (winPush x (append x s)) :=
  { h with
    outBuf := by rw [winPush_outBuf, winPush_outBuf, append_outBuf, append_outBuf, h.outBuf, h.outLen]
    outLen := congrArg (· + 1) h.outLen }

theorem Alike.put {c : StreamCtx} {r s : State} (h : Alike c r s) (x : Byte) : FlowsAlike c (put x r) (put x s) := by
  rcases put_cases x r with ⟨room, hput⟩ | ⟨⟨hmax, hfull⟩, hput⟩
  · rw [hput, put_room (by rwa [h.maxOut, h.outLen] at room)]
    exact .ok (h.push x)
  · rw [hput, put_full (by rwa [h.maxOut] at hmax) (by rwa [h.maxOut, h.outLen] at hfull)]
    exact .full r s

theorem Alike.putAll {c : StreamCtx} (xs : List Byte) {r s : State} (h : Alike c r s) :
    FlowsAlike c (putAll xs r) (putAll xs s) := by
  induction xs generalizing r s with
  | nil => exact .ok h
  | cons x xs ih =>
    have hput := h.put x
    rw [putAll_cons, putAll_cons]
    generalize Machine.put x r = f at *
    generalize Machine.put x s = g at *
    cases hput with
    | ok h' => exact ih h'
    | full r s => exact .full r s

theorem Alike.copyBytes {c : StreamCtx} {m n : Nat} (hn : m = n) (d : Nat) {r s : State} (h : Alike c r s) :
    FlowsAlike c (copyBytes m d r) (copyBytes n d s) := by
  subst hn
  induction m generalizing r s with
  | zero => exact .ok h
  | succ n ih =>
    have hput := h.put (r.outBuf.read (r.outLen - d))
    rw [copyBytes_succ, copyBytes_succ, ← h.outBuf, ← h.outLen]
    generalize Machine.put _ r = f at *
    generalize Machine.put _ s = g at *
    cases hput with
    | ok h' => exact ih h'
    | full r s => exact .full r s

/-! ### The elements -/

/-- The end of a block (R213, R245). -/
theorem Alike.endBlock {c : StreamCtx} {r s : State} (h : Alike c r s) (hc : c ≠ .blockHeader) :
    EndsAlike (endBlock r) (endBlock s) := by
  by_cases hfinal : r.bfinal = 1#1
  · rw [endBlock_final hfinal h.caller.1, endBlock_finalZlib ((h.bfinal hc).symm.trans hfinal) h.caller.2]
    exact .returned rfl h.running.2 h.outBuf h.outLen rfl
  · have hr : Machine.endBlock r = { r with micro := .blockHeader } := if_neg hfinal
    have hs : Machine.endBlock s = { s with micro := .blockHeader } := if_neg (by rwa [← h.bfinal hc])
    rw [hr, hs]
    exact .running (c := .blockHeader) rfl
      { h with next := ⟨rfl, rfl⟩, bfinal := fun hne => absurd rfl hne, mlen := fun heq => by cases heq }

theorem Alike.header {c : StreamCtx} {r s : State} (h : Alike c r s) (bfinal : BitVec 1) (btype : BitVec 2) {body : StreamCtx}
    (hbody : body.readsBits = true) (hne : body ≠ .distance) :
    EndsAlike (latchHeader bfinal btype body r) (latchHeader bfinal btype body s) :=
  .running hbody { h with next := ⟨rfl, rfl⟩, bfinal := fun _ => rfl, mlen := fun heq => absurd heq hne }

theorem Alike.storedBlock {r s : State} (h : Alike .storedBody r s) (len : BitVec 16) (data : List Byte) :
    EndsAlike (storedBlock len data r).state (storedBlock len data s).state := by
  have hlatch : Alike .storedBody { r with blen := len } { s with blen := len } := { h with mlen := fun heq => by cases heq }
  have hput := hlatch.putAll (data.take len.toNat)
  unfold Machine.storedBlock
  dsimp only
  generalize Machine.putAll _ { r with blen := len } = f at *
  generalize Machine.putAll _ { s with blen := len } = g at *
  cases hput with
  | ok h' =>
    dsimp only
    split
    · exact .of_raise rfl _ _
    · exact h'.endBlock (by decide)
  | full r s => exact .failed _ rfl (raise_status .outputLimitExceeded r) (raise_status .outputLimitExceeded s)

theorem Alike.literalElement {r s : State} (h : Alike .litLen r s) (x : Byte) :
    EndsAlike (literalElement x r).state (literalElement x s).state :=
  have hlatch : Alike .litLen { r with sym := x.setWidth 9, micro := .litLen }
      { s with sym := x.setWidth 9, micro := .litLen } := { h with next := ⟨rfl, rfl⟩, mlen := fun heq => by cases heq }
  (hlatch.put x).endsAlike rfl

theorem Alike.endOfBlock {r s : State} (h : Alike .litLen r s) :
    EndsAlike (Machine.endBlock { r with sym := 256#9 }) (Machine.endBlock { s with sym := 256#9 }) :=
  Alike.endBlock (c := .litLen) { h with mlen := fun heq => by cases heq } (by decide)

theorem Alike.lengthElement {r s : State} (h : Alike .litLen r s) (i e : Nat) :
    EndsAlike (lengthElement i e r) (lengthElement i e s) :=
  .running (c := .distance) rfl
    { h with next := ⟨rfl, rfl⟩, bfinal := fun _ => h.bfinal (by decide), mlen := fun _ => rfl }

theorem Alike.distanceElement {r s : State} (h : Alike .distance r s) (j e : Nat) :
    EndsAlike (distanceElement j e r).state (distanceElement j e s).state := by
  have hlatch : Alike .litLen { r with mdist := BitVec.ofNat 16 (distanceOperand j e), micro := .litLen }
      { s with mdist := BitVec.ofNat 16 (distanceOperand j e), micro := .litLen } :=
    { h with next := ⟨rfl, rfl⟩, bfinal := fun _ => h.bfinal (by decide), mlen := fun heq => by cases heq }
  unfold Machine.distanceElement
  dsimp only
  by_cases hback : s.outLen < distanceOperand j e
  · rw [if_pos (by rwa [h.outLen]), if_pos hback]
    exact .of_raise rfl _ _
  · rw [if_neg (by rwa [h.outLen]), if_neg hback]
    exact (hlatch.copyBytes (congrArg BitVec.toNat (h.mlen rfl)) _).endsAlike rfl

/-- An element does the same on both sides. -/
theorem Alike.deflateElement {c : StreamCtx} {r s : State} (h : Alike c r s) {i : Instr} (hi : i.ctx = some c)
    (hc : c.readsBits = true) :
    ∃ r' s', deflateElement i r = .next r' ∧ deflateElement i s = .next s' ∧ EndsAlike r' s' := by
  cases i with
  | blockStored f | blockFixed f => exact ⟨_, _, rfl, rfl, h.header f _ rfl (by decide)⟩
  | blockDynamic | blockReserved | litlenReserved286 | litlenReserved287 | distanceReserved30 | distanceReserved31 =>
    exact ⟨_, _, rfl, rfl, .of_raise rfl _ _⟩
  | storedBody _ len _ data => cases hi; exact ⟨_, _, rfl, rfl, h.storedBlock len data⟩
  | literal0To143 x | literal144To255 x => cases hi; exact ⟨_, _, rfl, rfl, h.literalElement x⟩
  | eob => cases hi; exact ⟨_, _, rfl, rfl, h.endOfBlock⟩
  | length257 | length258 | length259 | length260 | length261 | length262 | length263 | length264 | length265
  | length266 | length267 | length268 | length269 | length270 | length271 | length272 | length273 | length274
  | length275 | length276 | length277 | length278 | length279 | length280 | length281 | length282 | length283
  | length284 | length285 => cases hi; exact ⟨_, _, rfl, rfl, h.lengthElement _ _⟩
  | distance0 | distance1 | distance2 | distance3 | distance4 | distance5 | distance6 | distance7 | distance8
  | distance9 | distance10 | distance11 | distance12 | distance13 | distance14 | distance15 | distance16 | distance17
  | distance18 | distance19 | distance20 | distance21 | distance22 | distance23 | distance24 | distance25 | distance26
  | distance27 | distance28 | distance29 => cases hi; exact ⟨_, _, rfl, rfl, h.distanceElement _ _⟩
  | _ => cases hi <;> cases hc

/-! ### Rounds -/

theorem Alike.bitsLeft {c : StreamCtx} {r s : State} (h : Alike c r s) : bitsLeft r = bitsLeft s := by
  rw [← length_readerBits, ← length_readerBits, h.unread]

theorem Alike.advanceBits {c : StreamCtx} {r s : State} (h : Alike c r s) (n : Nat) :
    Alike c (advanceBits n r) (advanceBits n s) :=
  { h with
    unread := by rw [readerBits_advanceBits, readerBits_advanceBits, h.unread]
    rbit := by rw [advanceBits_rbit, advanceBits_rbit, h.rbit] }

theorem Alike.deflateStep {c : StreamCtx} {r s : State} (h : Alike c r s) (hc : c.readsBits = true) :
    ∃ r' s', deflateStep r = .next r' ∧ deflateStep s = .next s' ∧ EndsAlike r' s' := by
  obtain ⟨hmr, hms⟩ := h.next
  have hreads {u : State} (hu : u.micro = c) : u.micro.readsBits = true := hu ▸ hc
  have hsame : decodeStream s.micro s.rbit.toNat (readerBits s) = decodeStream r.micro r.rbit.toNat (readerBits r) := by
    rw [hmr, hms, h.rbit, h.unread]
  unfold Machine.deflateStep
  cases hd : decodeStream r.micro r.rbit.toNat (readerBits r) with
  | ok p =>
    obtain ⟨i, rest⟩ := p
    obtain ⟨hi, hlt⟩ := decodeStream_bits (hreads hmr) hd
    rw [length_readerBits] at hlt
    obtain ⟨n, hn⟩ := Nat.exists_eq_add_of_le hlt.le
    rw [fetch_of_decode (hreads hmr) hd hn.symm, fetch_of_decode (hreads hms) (hsame.trans hd) (h.bitsLeft ▸ hn.symm)]
    exact (h.advanceBits n).deflateElement (hmr ▸ hi) hc
  | error e =>
    cases e with
    | truncated =>
      rw [fetch_of_truncated (hreads hmr) hd, fetch_of_truncated (hreads hms) (hsame.trans hd)]
      exact ⟨_, _, rfl, rfl, .of_raise rfl _ _⟩
    | endOfInput => exact absurd hd (decodeStream_bits_ne_endOfInput (hreads hmr) _ _)

theorem busy_of_statusFailed {s : State} {k : ErrorKind} (h : s.status = statusFailed k) : s.busy = false := by
  rw [← raise_busy k s]
  exact busy_congr (h.trans (raise_status k s).symm)

/-- Both decoders go on, or neither does. -/
theorem EndsAlike.inflating {r s : State} (h : EndsAlike r s) :
    (Machine.inflating r = true ∧ Machine.inflating s = true ∧ ∃ c, c.readsBits = true ∧ Alike c r s) ∨
      (Machine.inflating r = false ∧ Machine.inflating s = false) := by
  simp only [inflating_eq]
  cases h with
  | running hc h =>
    obtain ⟨hmr, hms⟩ := h.next
    obtain ⟨hbr, hbs⟩ := h.running
    exact .inl ⟨by rw [hbr, hmr, hc]; rfl, by rw [hbs, hms, hc]; rfl, _, hc, h⟩
  | returned hr hs hbuf hlen hm =>
    have hended : r.busy = false := (busy_congr (hr.trans (succeed_status r).symm)).trans (succeed_busy r)
    exact .inr ⟨by rw [hended]; rfl, by rw [hm]; exact Bool.and_false _⟩
  | failed k hk hr hs => exact .inr ⟨by rw [busy_of_statusFailed hr]; rfl, by rw [busy_of_statusFailed hs]; rfl⟩

/-- The two loops side by side, with fuel for as many rounds. -/
theorem EndsAlike.runWhile (n : Nat) {r s : State} (h : EndsAlike r s) :
    ∃ r' s', runWhile Machine.inflating Machine.deflateStep n r = .next r' ∧
      runWhile Machine.inflating Machine.deflateStep n s = .next s' ∧ EndsAlike r' s' := by
  induction n generalizing r s with
  | zero => exact ⟨r, s, rfl, rfl, h⟩
  | succ n ih =>
    rw [Machine.runWhile, Machine.runWhile]
    rcases h.inflating with ⟨hr, hs, c, hc, halike⟩ | ⟨hr, hs⟩
    · obtain ⟨r', s', hr', hs', h'⟩ := halike.deflateStep hc
      rw [if_pos hr, if_pos hs, hr', hs']
      exact ih h'
    · rw [if_neg (Bool.eq_false_iff.1 hr), if_neg (Bool.eq_false_iff.1 hs)]
      exact ⟨r, s, rfl, rfl, h⟩

theorem Alike.inflate {c : StreamCtx} {r s : State} (h : Alike c r s) (hc : c.readsBits = true) :
    ∃ r' s', inflate r = .next r' ∧ inflate s = .next s' ∧ EndsAlike r' s' := by
  unfold Machine.inflate
  rw [h.bitsLeft]
  exact (EndsAlike.running hc h).runWhile _

/-- `DECOMPRESS` of the payload's bytes, and the decoder that `DECOMPRESS_ZLIB` calls. -/
theorem start_alike {r s : State} (hinput : r.input = s.inBuf.bytes 2 (s.inLen - 6)) (hmax : r.maxOut = s.maxOut) :
    Alike .blockHeader (atFirstBlock false (start r)) (atPayload (start s)) where
  running := ⟨start_busy r, start_busy s⟩
  next := ⟨rfl, rfl⟩
  caller := ⟨rfl, rfl⟩
  unread := congrArg bytesBits hinput
  rbit := rfl
  outBuf := rfl
  outLen := rfl
  maxOut := hmax
  bfinal hne := absurd rfl hne
  mlen heq := by cases heq

/-! ### The trailer's four bytes -/

theorem bigEndian_injective : Function.Injective Ref.bigEndian := by
  intro v w h
  rw [← be32_eq_bigEndian, ← be32_eq_bigEndian] at h
  simp only [be32, List.cons.injEq, and_true] at h
  obtain ⟨h0, h1, h2, h3⟩ := h
  rw [← be32Inv_be32 v, ← be32Inv_be32 w, h0, h1, h2, h3]

/-- Any four bytes are the big-endian form of a value (R243). -/
theorem exists_bigEndian_eq_bytes (m : Memory) (a : Nat) : ∃ v, m.bytes a 4 = Ref.bigEndian v :=
  ⟨_, (be32_be32Inv (m.read (a + 0)) (m.read (a + 1)) (m.read (a + 2)) (m.read (a + 3))).symm.trans (be32_eq_bigEndian _)⟩

/-! ### The command -/

/-- `STATUS` and `RESULT` where a move of the envelope has raised. -/
theorem failedAs_atEnvelope {w : BitVec 8} {c : StreamCtx} {s t : State} (h : Ref.failedAs w (atEnvelope c s) t) :
    t.status = w ∧ t.result = 0#32 := by
  rw [h]
  exact ⟨rfl, rfl⟩

theorem ok_statusFailed {s : State} {k : ErrorKind} (h : s.status = statusFailed k) : s.ok = false := by
  rw [State.ok, h, ← raise_status k s]
  exact raise_ok k s

theorem err_statusFailed {s : State} {k : ErrorKind} (h : s.status = statusFailed k) : s.err = k.code := by
  rw [State.err, h, ← raise_status k s]
  exact raise_err k s

/-- `DECOMPRESS_ZLIB` past its header and its length tests, by what `DECOMPRESS` makes of the payload (R246 (4), (5)). -/
theorem execDecompressZlib_cases {s r u : State} (level : BitVec 4) (hlen : 6 ≤ s.inLen)
    (hok : Ref.headerOk (s.inBuf.read 0) (s.inBuf.read 1) = true) (hinput : r.input = s.inBuf.bytes 2 (s.inLen - 6))
    (hmax : r.maxOut = s.maxOut) (hu : exec (.decompress level) r = .next u) :
    (∃ k t, k.keepsOut = false ∧ exec (.decompressZlib level) s = .next t ∧ u.status = statusFailed k ∧
        t.status = statusFailed k) ∨
      (u.status = statusSucceeded ∧ ∃ w, w.output = u.output ∧ w.outLen = u.outLen ∧
        ∀ v, s.inBuf.bytes (s.inLen - 4) 4 = Ref.bigEndian v →
          exec (.decompressZlib level) s = exec (.zlibAdler32 v) w) := by
  obtain ⟨u', w, hu', hw, hend⟩ := (start_alike hinput hmax).inflate rfl
  cases hu.symm.trans hu'
  cases hend with
  | running hc h =>
    obtain ⟨-, u', hrun, -, hbusy⟩ := inflate_reaches (s := atFirstBlock false (start r)) rfl
    cases hu.symm.trans hrun
    exact absurd (hbusy h.running.1).1 Bool.false_ne_true
  | returned hr hs hbuf houtLen hm =>
    refine .inr ⟨hr, w, ?_, houtLen.symm, fun v hv => execDecompressZlib_trailer level hlen hok hw hs hv⟩
    rw [State.output, State.output, hbuf, houtLen]
  | failed k hk hr hs =>
    refine .inl ⟨k, w, hk, ?_, hr, hs⟩
    rw [execDecompressZlib_payload level hlen hok hw, runStream_ended (busy_of_statusFailed hs)]

/-- Settles O34: each check ends the command before the next is made, and the payload's decoder is `DECOMPRESS`'s. -/
theorem decompressZlibChecksInOrder : Obligations.DecompressZlibChecksInOrder := by
  intro s level
  obtain ⟨-, t, ht, -⟩ := runStream_zlib_reaches s
  refine ⟨t, ht, fun hlen => ?_, fun hlen hbad => ?_, fun hlen hshort hok => ?_, fun hlen hok r u hinput hmax hu => ?_⟩
  · obtain ⟨t', ht', hfail⟩ := execDecompressZlib_short level hlen
    cases ht.symm.trans ht'
    exact failedAs_atEnvelope hfail
  · obtain ⟨c, t', ht', hfail⟩ := execDecompressZlib_badHeader level hlen hbad
    cases ht.symm.trans ht'
    exact failedAs_atEnvelope hfail
  · obtain ⟨t', ht', hfail⟩ := execDecompressZlib_noTrailer level hlen hshort hok
    cases ht.symm.trans ht'
    exact failedAs_atEnvelope hfail
  · rcases execDecompressZlib_cases level hlen hok hinput hmax hu with
      ⟨k, t', hk, ht', hus, hts⟩ | ⟨hus, w, hout, hlenOut, hrun⟩
    · cases ht.symm.trans ht'
      have herr : t.err ≠ 5#4 := by rw [err_statusFailed hts]; exact ErrorKind.code_ne_of_not_keepsOut hk
      have hresult : t.result = 0#32 :=
        ((execDecompressZlib_decoderEnd (level := level) ht).zlib_result rfl).2 (ok_statusFailed hts) herr
      exact ⟨fun _ => ⟨hts.trans hus.symm, hresult⟩, fun h => absurd h (by simp [ok_statusFailed hus])⟩
    · have hok : u.ok = true := by rw [State.ok, hus]; decide
      obtain ⟨v, hv⟩ := exists_bigEndian_eq_bytes s.inBuf (s.inLen - 4)
      have hend := ht.symm.trans (hrun v hv)
      rw [zlibTrailerDecidesTheEnd v w, hout] at hend
      cases hend
      rw [hv]
      refine ⟨fun h => absurd h (by simp [hok]), fun _ => ⟨hout, hlenOut, rfl, fun heq => ?_, fun hne => ?_⟩⟩
      · exact if_pos (bigEndian_injective heq).symm
      · exact if_neg fun heq => hne (congrArg Ref.bigEndian heq.symm)

end Sys2Proof.Machine
end

section
/-! PROOFS. The checksum step and the ADLER32 command (46_adler32.md R261 to R266). -/

namespace Sys2Proof.Machine

/-! ### One step -/

/-- Reduced sums fit their 16-bit registers, so `a` after a step is R261's value in full. -/
theorem adlerStep_a_toNat (x : Byte) (s : State) : (adlerStep x s).a.toNat = (s.a.toNat + x.toNat) % 65521 := by
  rw [adlerStep_a, Rom.adlerMod, BitVec.toNat_ofNat, Nat.mod_eq_of_lt (by omega)]

/-- `b` adds the value of `a` after the byte has been added (R261). -/
theorem adlerStep_b_toNat (x : Byte) (s : State) :
    (adlerStep x s).b.toNat = (s.b.toNat + (adlerStep x s).a.toNat) % 65521 := by
  rw [adlerStep_a_toNat, adlerStep_b, Rom.adlerMod, BitVec.toNat_ofNat, Nat.mod_eq_of_lt (by omega)]

/-- Settles O37: both sums are remainders modulo 65521, so a byte 0 keeps a reduced `a`. -/
theorem adlerStepUsesTheNewA : Obligations.AdlerStepUsesTheNewA := by
  refine ⟨fun x s ha _ => ?_, fun s ha hb => ?_⟩
  · have hA := adlerStep_a_toNat x s
    have hB := adlerStep_b_toNat x s
    refine ⟨hA, hB, by omega, by omega, fun hx => ?_, fun ha' hx => ?_, rfl⟩
    · apply BitVec.eq_of_toNat_eq
      rw [hA, hx, BitVec.toNat_ofNat, Nat.zero_mod, Nat.add_zero, Nat.mod_eq_of_lt (by omega)]
    · rw [adlerStep_a, ha', hx]; rfl
  · rw [adlerStep_a, adlerStep_b, ha, hb]; exact ⟨rfl, rfl⟩

/-! ### The command -/

/-- The two halves of the checksum do not overlap: each is below 65521 (R263). -/
theorem adler_toNat (xs : List Byte) : (Ref.adler xs).toNat = Ref.adlerB xs * 2 ^ 16 + Ref.adlerA xs := by
  have hA : Ref.adlerA xs < 65521 := Nat.mod_lt _ (by decide)
  have hB : Ref.adlerB xs < 65521 := Nat.mod_lt _ (by decide)
  rw [Ref.adler, BitVec.toNat_ofNat]; omega

theorem input_eq_nil {s : State} (h : s.inLen = 0) : s.input = [] := by rw [State.input, h]; rfl

/-- Settles O38: the command is one checksum pass over `IN` from the started state, in closed form. -/
theorem adler32CommandGivesTheClosedForm : Obligations.Adler32CommandGivesTheClosedForm := by
  intro s level
  refine ⟨?_, fun hlen => by rw [input_eq_nil hlen]; rfl, adler_toNat s.input⟩
  have hvalue := adlerValue_adlerPass s.input (start s)
  change execAdler32 level s = _
  unfold execAdler32
  dsimp only
  rw [hvalue, adlerPass_eq]
  rfl

end Sys2Proof.Machine
end

section
/-! PROOFS. The end of a command (49_host_interface.md R303, 60_exceptions.md R320, R330): STATUS is the word of a success or that of
a failure's kind. -/

namespace Sys2Proof.Machine

/-- The command has ended, in success or with an error kind. -/
def State.ended (s : State) : Prop := s.status = statusSucceeded ∨ ∃ k, s.status = statusFailed k

theorem ended_succeed (s : State) : (succeed s).ended := .inl rfl

theorem ended_raise (k : ErrorKind) (s : State) : (raise k s).ended := .inr ⟨k, raise_status k s⟩

theorem State.ended.done {s : State} (h : s.ended) : s.done = true := by
  rw [State.done]
  rcases h with h | ⟨k, h⟩ <;> rw [h]
  · decide
  · cases k <;> decide

theorem State.ended.busy {s : State} (h : s.ended) : s.busy = false := by
  rw [State.busy]
  rcases h with h | ⟨k, h⟩ <;> rw [h]
  · decide
  · cases k <;> decide

end Sys2Proof.Machine
end

section
/-! PROOFS. The channel-safe form (47_channel_escaper.md R270 to R274): what ENCODE_CHANNEL writes, and DECODE_CHANNEL as a run
over the bytes that are left of its input. -/

namespace Sys2Proof.Ref

/-! ### The escaped form -/

/-- The channel-safe form of one byte (30_encoding.md R114). -/
theorem escape_cons (x : Byte) (xs : List Byte) : escape (x :: xs) = Machine.escapeByte x ++ escape xs := rfl

/-- The bytes that the channel-safe form replaces (R270). -/
def reserved (x : Byte) : Bool := x == 0x00#8 || x == 0x01#8 || x == 0xFF#8

theorem escapeByte_of_not_reserved {x : Byte} (h : reserved x = false) : Machine.escapeByte x = [x] := by
  simp only [reserved, Bool.or_eq_false_iff, beq_eq_false_iff_ne] at h
  simp [Machine.escapeByte, h]

/-- A reserved byte becomes the escape byte and one of its three followers. -/
theorem escapeByte_of_reserved {x : Byte} (h : reserved x = true) :
    ∃ f, Machine.escapeByte x = [0x01#8, f] ∧ f ≠ 0x00#8 ∧ f ≠ 0xFF#8 := by
  simp only [reserved, Bool.or_eq_true, beq_iff_eq] at h
  rcases h with (rfl | rfl) | rfl
  · exact ⟨0x01#8, rfl, by decide, by decide⟩
  · exact ⟨0x02#8, rfl, by decide, by decide⟩
  · exact ⟨0x03#8, rfl, by decide, by decide⟩

theorem length_escape (xs : List Byte) : (escape xs).length = xs.length + (xs.filter reserved).length := by
  induction xs with
  | nil => rfl
  | cons x xs ih =>
    rw [escape_cons, List.length_append, ih, List.filter_cons]
    cases h : reserved x with
    | false => rw [escapeByte_of_not_reserved h]; simp; omega
    | true =>
      obtain ⟨f, hf, -, -⟩ := escapeByte_of_reserved h
      rw [hf]; simp; omega

theorem length_escape_le (xs : List Byte) : (escape xs).length ≤ 2 * xs.length := by
  have := List.length_filter_le reserved xs
  rw [length_escape]
  omega

theorem not_mem_escape (xs : List Byte) {x : Byte} (h : x ∈ escape xs) : x ≠ 0x00#8 ∧ x ≠ 0xFF#8 := by
  induction xs with
  | nil => cases h
  | cons y ys ih =>
    rw [escape_cons, List.mem_append] at h
    rcases h with h | h
    · cases hy : reserved y with
      | false =>
        rw [escapeByte_of_not_reserved hy, List.mem_singleton] at h
        simp only [reserved, Bool.or_eq_false_iff, beq_eq_false_iff_ne] at hy
        exact h ▸ ⟨hy.1.1, hy.2⟩
      | true =>
        obtain ⟨f, hf, h0, hF⟩ := escapeByte_of_reserved hy
        rw [hf, List.mem_pair] at h
        rcases h with rfl | rfl
        · decide
        · exact ⟨h0, hF⟩
    · exact ih h

theorem escape_of_clean {xs : List Byte} (h : ∀ x, x ∈ xs → x ≠ 0x00#8 ∧ x ≠ 0x01#8 ∧ x ≠ 0xFF#8) : escape xs = xs := by
  induction xs with
  | nil => rfl
  | cons x xs ih =>
    obtain ⟨h0, h1, hF⟩ := h x List.mem_cons_self
    rw [escape_cons, ih fun y hy => h y (List.mem_cons_of_mem x hy), escapeByte_of_not_reserved (by simp [reserved, h0, h1, hF])]
    rfl

end Sys2Proof.Ref

namespace Sys2Proof.Machine

/-! ### The elements of a channel-safe stream -/

/-- The bytes of an element that gives a byte, the element, and the byte it gives (R272, R273). -/
inductive GivesByte : List Byte → Instr → Byte → Prop
  | plain (x : Byte) (h : x ≠ 0x01#8) : GivesByte [x] (.escPlain x) x
  | esc00 : GivesByte [0x01#8, 0x01#8] .esc00 0x00#8
  | esc01 : GivesByte [0x01#8, 0x02#8] .esc01 0x01#8
  | escFF : GivesByte [0x01#8, 0x03#8] .escFF 0xFF#8

/-- A sequence of bytes is at its end, begins with an element that gives a byte, or begins with an escape byte that has no
recognised follower (R272). -/
theorem channelInduction {P : List Byte → Prop} (nil : P [])
    (gives : ∀ bs i y rest, GivesByte bs i y → P rest → P (bs ++ rest))
    (invalid : ∀ f rest, (Instr.escInvalid f).wf = true → (f = none → rest = []) → P (0x01#8 :: f.toList ++ rest))
    (xs : List Byte) : P xs := by
  induction xs using Ref.unescape.induct with
  | case1 => exact nil
  | case2 x rest hx ih => exact gives [x] _ x rest (.plain x hx) ih
  | case3 x hx => obtain rfl := not_not.1 hx; exact invalid none [] rfl fun _ => rfl
  | case4 x hx rest ih => obtain rfl := not_not.1 hx; exact gives _ _ _ rest .esc00 ih
  | case5 x hx rest _ ih => obtain rfl := not_not.1 hx; exact gives _ _ _ rest .esc01 ih
  | case6 x hx rest _ _ ih => obtain rfl := not_not.1 hx; exact gives _ _ _ rest .escFF ih
  | case7 x hx f rest h1 h2 h3 =>
    obtain rfl := not_not.1 hx
    exact invalid (some f) rest (by simp [Instr.wf, h1, h2, h3]) fun h => by cases h

theorem GivesByte.length_pos {bs : List Byte} {i : Instr} {y : Byte} (h : GivesByte bs i y) : 0 < bs.length := by
  cases h <;> exact Nat.succ_pos _

theorem GivesByte.element {bs : List Byte} {i : Instr} {y : Byte} (h : GivesByte bs i y) :
    i.ctx = some .escape ∧ i.wf = true ∧ encode i = bytesBits bs ∧ (∀ s, exec i s = .next (append y s)) := by
  cases h with
  | plain _ hx => exact ⟨rfl, decide_eq_true hx, (List.append_nil _).symm, fun _ => rfl⟩
  | esc00 | esc01 | escFF => exact ⟨rfl, rfl, rfl, fun _ => rfl⟩

theorem GivesByte.unescape {bs : List Byte} {i : Instr} {y : Byte} (h : GivesByte bs i y) (rest : List Byte) :
    Ref.unescape (bs ++ rest) = (Ref.unescape rest).map (y :: ·) := by
  cases h with
  | plain x hx => rw [List.singleton_append, Ref.unescape.eq_def]; exact if_pos hx
  | esc00 | esc01 | escFF => rfl

theorem unescape_invalid {f : Option Byte} {rest : List Byte} (hwf : (Instr.escInvalid f).wf = true)
    (hend : f = none → rest = []) : Ref.unescape (0x01#8 :: f.toList ++ rest) = none := by
  cases f with
  | none => rw [hend rfl]; rfl
  | some f =>
    simp only [Instr.wf, decide_eq_true_eq, ne_eq, Option.some.injEq] at hwf
    simp [Ref.unescape, hwf]

/-- What the channel-safe form of a byte gives is that byte (R274). -/
theorem givesByte_escapeByte (x : Byte) : ∃ i, GivesByte (escapeByte x) i x := by
  cases h : Ref.reserved x with
  | false =>
    rw [Ref.escapeByte_of_not_reserved h]
    exact ⟨_, .plain x (by rintro rfl; exact absurd h (by decide))⟩
  | true =>
    simp only [Ref.reserved, Bool.or_eq_true, beq_iff_eq] at h
    rcases h with (rfl | rfl) | rfl
    exacts [⟨_, .esc00⟩, ⟨_, .esc01⟩, ⟨_, .escFF⟩]

theorem unescape_escape (xs : List Byte) : Ref.unescape (Ref.escape xs) = some xs := by
  induction xs with
  | nil => rfl
  | cons x xs ih =>
    obtain ⟨_, h⟩ := givesByte_escapeByte x
    rw [Ref.escape_cons, h.unescape, ih]
    rfl

/-- Every byte given takes at least one byte of the channel-safe form. -/
theorem length_le_of_unescape {xs out : List Byte} (h : Ref.unescape xs = some out) : out.length ≤ xs.length := by
  induction xs using channelInduction generalizing out with
  | nil => cases h; exact Nat.le_refl 0
  | gives bs i y rest hbs ih =>
    rw [hbs.unescape] at h
    obtain ⟨o, ho, rfl⟩ := Option.map_eq_some_iff.1 h
    have := ih ho
    have := hbs.length_pos
    simp only [List.length_cons, List.length_append]
    omega
  | invalid f rest hwf hend => rw [unescape_invalid hwf hend] at h; cases h

/-! ### ENCODE_CHANNEL -/

theorem escapeAll_eq (xs : List Byte) (s : State) :
    escapeAll xs s = { appendAll (Ref.escape xs) s with ipos := s.ipos + xs.length } := by
  induction xs generalizing s with
  | nil => rfl
  | cons x xs ih =>
    rw [escapeAll, ih]
    dsimp only
    rw [appendAll_withIpos, Ref.escape_cons, appendAll_append, appendAll_ipos, Nat.add_assoc, Nat.add_comm 1]
    rfl

/-- Bytes appended to an empty `OUT`. -/
theorem appendAll_of_empty {s : State} (hbuf : s.outBuf = []) (hlen : s.outLen = 0) (xs : List Byte) :
    appendAll xs s = { s with outBuf := Memory.ofBytes xs, outLen := xs.length } := by
  have hout : (appendAll xs s).outBuf = Memory.ofBytes xs := appendAll_outBuf (ys := []) hbuf hlen xs
  rw [appendAll_frame, hout, hlen, Nat.zero_add]

theorem execEncodeChannel_eq (level : BitVec 4) (s : State) : exec (.encodeChannel level) s = .next { start s with
    status := 0x06#8, outBuf := Memory.ofBytes (Ref.escape s.input), outLen := (Ref.escape s.input).length,
    ipos := s.inLen } := by
  change execEncodeChannel level s = _
  rw [execEncodeChannel, escapeAll_eq, appendAll_of_empty rfl rfl, length_input, start_ipos, Nat.zero_add]
  rfl

/-- Settles O39: each byte of the input is appended in its channel-safe form. -/
theorem encodeChannelEscapes : Obligations.EncodeChannelEscapes := by
  intro s level
  refine ⟨execEncodeChannel_eq level s, ?_, ?_, fun x => Ref.not_mem_escape s.input, by rw [unescape_escape]; rfl⟩
  · rw [Ref.length_escape, length_input]; rfl
  · rw [← length_input]; exact Ref.length_escape_le s.input

/-! ### DECODE_CHANNEL -/

/-- Settles O40: each element appends its byte, and a write touches no other byte. -/
theorem escapeElementsAppendTheirByte : Obligations.EscapeElementsAppendTheirByte := fun x _ s =>
  ⟨rfl, rfl, rfl, rfl, fun _ => Memory.read_write_other x, fun h => Memory.read_write_same h s.outLen x, _, rfl,
    failedAs_raise .invalidEscape s⟩

/-- What `IN` holds from `ipos` on, `n` bytes later. -/
theorem inputLeft_withIpos (s : State) (n : Nat) : ({ s with ipos := s.ipos + n } : State).inputLeft = s.inputLeft.drop n := by
  rw [State.inputLeft, State.inputLeft, Memory.bytes_drop, Nat.sub_add_eq]

/-- An element that a text begins with is run with the cursor past its bytes. -/
theorem streamStep_bytes {s : State} {i : Instr} {bs rest : List Byte} (hc : s.micro.readsBytes = true)
    (hleft : s.inputLeft = bs ++ rest)
    (hd : decodeStream s.micro s.rbit.toNat (bytesBits (bs ++ rest)) = .ok (i, bytesBits rest)) :
    streamStep s = exec i { s with ipos := s.ipos + bs.length } := by
  have hbits : unreadBits s = bytesBits (bs ++ rest) := (unreadBits_of_readsBytes hc).trans (congrArg bytesBits hleft)
  have hcount : (8 * (bs ++ rest).length - 8 * rest.length) / 8 = bs.length := by rw [List.length_append]; omega
  rw [← hbits] at hd
  rw [streamStep, streamStepWith, fetch, hd]
  dsimp only
  rw [moveCursor_of_readsBytes hc, hbits, length_bytesBits, length_bytesBits, hcount]
  exact streamElement_eq_exec (decodeStream_ctx hd) _

/-- At the end of its input a text decoder ends the command. -/
theorem streamStep_noneLeft {s : State} (hc : s.micro.readsBytes = true) (hleft : s.inputLeft = []) :
    streamStep s = .next (endOfInput s) := by
  have hbits : unreadBits s = [] := (unreadBits_of_readsBytes hc).trans (congrArg bytesBits hleft)
  have hd : decodeStream s.micro s.rbit.toNat [] = .error .endOfInput := by
    cases hm : s.micro with
    | escape | print | printPad => rfl
    | _ => rw [hm] at hc; cases hc
  rw [streamStep, streamStepWith, fetch, hbits, hd]

theorem streamStep_escape {s : State} {i : Instr} {bs rest : List Byte} (hm : s.micro = .escape) (hi : i.ctx = some .escape)
    (hwf : i.wf = true) (hbits : encode i = bytesBits bs) (hend : i = .escInvalid none → rest = [])
    (hleft : s.inputLeft = bs ++ rest) : streamStep s = exec i { s with ipos := s.ipos + bs.length } := by
  refine streamStep_bytes (by rw [hm]; rfl) hleft ?_
  rw [hm, bytesBits_append, ← hbits]
  exact decodeEscape_encode hi hwf fun h => congrArg bytesBits (hend h)

/-- How DECODE_CHANNEL ends from a state of its run, given what the rest of its input unescapes to. -/
def channelEnd (result : Option (List Byte)) (s t : State) : Prop :=
  match result with
  | some out => t = succeed { appendAll out s with ipos := s.inLen }
  | none => Ref.failedAs 0x62#8 { s with ipos := t.ipos } t

theorem withIpos_of_noneLeft {s : State} (hpos : s.ipos ≤ s.inLen) (hleft : s.inputLeft = []) :
    { s with ipos := s.inLen } = s := by
  have hlen := length_inputLeft s
  rw [hleft, List.length_nil] at hlen
  have hend : s.ipos = s.inLen := by omega
  exact (congrArg (fun n => { s with ipos := n }) hend).symm

/-- The cursor past the bytes that the rest of the input begins with. -/
theorem inputLeft_after {s : State} {bs rest : List Byte} (hpos : s.ipos ≤ s.inLen) (hleft : s.inputLeft = bs ++ rest) :
    s.ipos + bs.length ≤ s.inLen ∧ ({ s with ipos := s.ipos + bs.length } : State).inputLeft = rest := by
  have := length_inputLeft s
  rw [hleft, List.length_append] at this
  refine ⟨by omega, ?_⟩
  rw [inputLeft_withIpos, hleft, List.drop_left]

/-- DECODE_CHANNEL from any point of its input on: element by element to the end, or to the first invalid escape (R272). -/
theorem runStream_channel (xs : List Byte) {s : State} {n : Nat} (hb : s.busy = true) (hm : s.micro = .escape)
    (hpos : s.ipos ≤ s.inLen) (hleft : s.inputLeft = xs) (hn : xs.length < n) :
    ∃ t, runStream n s = .next t ∧ channelEnd (Ref.unescape xs) s t := by
  have hc : s.micro.readsBytes = true := by rw [hm]; rfl
  obtain ⟨n, rfl⟩ : ∃ m, n = m + 1 := Nat.exists_eq_add_one.2 (by omega)
  induction xs using channelInduction generalizing s n with
  | nil =>
    have hstep : streamStep s = .next (succeed s) := by rw [streamStep_noneLeft hc hleft, endOfInput, hm]
    refine ⟨_, (runStream_succ hb hstep).trans (runStream_ended (succeed_busy s)), ?_⟩
    show succeed s = succeed { s with ipos := s.inLen }
    rw [withIpos_of_noneLeft hpos hleft]
  | gives bs i y rest hbs ih =>
    obtain ⟨hi, hwf, hbits, hexec⟩ := hbs.element
    obtain ⟨hpos', hleft'⟩ := inputLeft_after hpos hleft
    have hstep := (streamStep_escape hm hi hwf hbits (by rintro rfl; cases hbs) hleft).trans (hexec _)
    rw [List.length_append] at hn
    have := hbs.length_pos
    obtain ⟨n, rfl⟩ : ∃ m, n = m + 1 := Nat.exists_eq_add_one.2 (by omega)
    obtain ⟨t, ht, hend⟩ := ih (s := append y { s with ipos := s.ipos + bs.length }) hb hm hpos' hleft' hc n (by omega)
    refine ⟨t, (runStream_succ hb hstep).trans ht, ?_⟩
    rw [hbs.unescape]
    cases hr : Ref.unescape rest with
    | none => rw [hr] at hend; exact hend
    | some out =>
      rw [hr] at hend
      have hmoved := appendAll_withIpos out (append y s) (s.ipos + bs.length)
      change t = succeed { appendAll out { append y s with ipos := s.ipos + bs.length } with ipos := s.inLen } at hend
      rw [hmoved] at hend
      exact hend
  | invalid f rest hwf hend =>
    have hstep := streamStep_escape hm (i := .escInvalid f) rfl hwf rfl (fun h => hend (by cases h; rfl)) hleft
    refine ⟨_, (runStream_succ hb hstep).trans (runStream_ended (raise_busy _ _)), ?_⟩
    rw [unescape_invalid hwf hend]
    show Ref.failedAs _ _ _
    rw [raise_ipos]
    exact failedAs_raise .invalidEscape _

/-- DECODE_CHANNEL is that run over its whole input. -/
theorem execDecodeChannel_ends (level : BitVec 4) (s : State) : ∃ t, exec (.decodeChannel level) s = .next t ∧
    channelEnd (Ref.unescape s.input) { start s with micro := .escape } t :=
  runStream_channel s.input (start_busy s) rfl (Nat.zero_le _) rfl (by rw [length_input]; exact Nat.lt_succ_self _)

theorem channelEnd.ended {result : Option (List Byte)} {s t : State} (h : channelEnd result s t) : t.ended := by
  cases result with
  | none => rw [show t = _ from h]; exact .inr ⟨.invalidEscape, rfl⟩
  | some out => rw [show t = _ from h]; exact ended_succeed _

theorem execDecodeChannel_of_unescape {s : State} {out : List Byte} (level : BitVec 4) (h : Ref.unescape s.input = some out) :
    exec (.decodeChannel level) s = .next { start s with
      status := 0x06#8, outBuf := Memory.ofBytes out, outLen := out.length, ipos := s.inLen, micro := .escape } := by
  obtain ⟨t, ht, hend⟩ := execDecodeChannel_ends level s
  rw [h] at hend
  rw [ht, show t = succeed _ from hend, appendAll_of_empty rfl rfl]
  rfl

/-- Settles O41: the run takes one element after the other, and `Ref.unescape` takes the same bytes with each. -/
theorem decodeChannelUnescapes : Obligations.DecodeChannelUnescapes := by
  refine ⟨fun s level => ⟨fun out => execDecodeChannel_of_unescape level, fun h => ?_⟩, rfl, rfl, rfl, rfl, rfl⟩
  obtain ⟨t, ht, hend⟩ := execDecodeChannel_ends level s
  rw [h] at hend
  have hfail : Ref.failedAs 0x62#8 { start s with ipos := t.ipos, micro := .escape } t := hend
  exact ⟨t, ht, by rw [hfail]; rfl, hfail⟩

/-! ### The round trip -/

/-- The output of a state whose `OUT` holds these bytes. -/
theorem output_of_ofBytes {t : State} {out : List Byte} (hbuf : t.outBuf = Memory.ofBytes out) (hlen : t.outLen = out.length) :
    t.output = out := by
  rw [State.output, hbuf, hlen, Memory.bytes_ofBytes]

theorem execEncodeChannel_output {level : BitVec 4} {s t : State} (h : exec (.encodeChannel level) s = .next t) :
    t.output = Ref.escape s.input := by
  cases (execEncodeChannel_eq level s).symm.trans h
  exact output_of_ofBytes rfl rfl

/-- Settles O42: unescaping undoes escaping, and both commands end in the states of O39 and O41. -/
theorem channelRoundTrip : Obligations.ChannelRoundTrip := by
  refine ⟨fun s t r level level' ht hr => ?_, fun s t level hclean ht => ?_, fun s t r u level hs ht hr hu => ?_,
    fun s level => ⟨⟨_, execEncodeChannel_eq level s, ?_⟩, ?_⟩⟩
  · have hinput : Ref.unescape r.input = some s.input := by rw [hr, execEncodeChannel_output ht, unescape_escape]
    exact ⟨_, execDecodeChannel_of_unescape level' hinput, rfl, output_of_ofBytes rfl rfl⟩
  · rw [execEncodeChannel_output ht, Ref.escape_of_clean hclean]
  · rw [execEncodeChannel_output hu, hr, execEncodeChannel_output ht, hs]; rfl
  · exact State.ended.done (.inl rfl)
  · obtain ⟨t, ht, hend⟩ := execDecodeChannel_ends level s
    exact ⟨t, ht, hend.ended.done⟩

end Sys2Proof.Machine
end

section
/-! PROOFS. The print-safe form (48_base64.md R281 to R283): the alphabet, the groups of three bytes as groups of four indices, and
ENCODE_PRINT. -/

namespace Sys2Proof.Ref

/-! ### The alphabet -/

theorem charOf_eq_b64Char : ∀ k < 64, Rom.b64Char k = charOf k := by decide +kernel

theorem b64Inv_eq_indexOf : ∀ c : Byte, Rom.b64Inv c = indexOf c := by decide +kernel

theorem indexOf_charOf : ∀ k < 64, indexOf (charOf k) = some k := by decide +kernel

/-- The index of a character is its place in the alphabet (R281). -/
theorem of_indexOf {c : Byte} {k : Nat} (h : indexOf c = some k) : k < 64 ∧ c = charOf k := by
  obtain ⟨hk, hc, -⟩ := List.findIdx?_eq_some_iff_getElem.1 h
  refine ⟨hk, ?_⟩
  rw [charOf, List.getD_eq_getElem?_getD, List.getElem?_eq_getElem hk]
  exact (beq_iff_eq.1 hc).symm

theorem charOf_mem_alphabet {k : Nat} (h : k < 64) : charOf k ∈ alphabet := by
  rw [charOf, List.getD_eq_getElem?_getD, List.getElem?_eq_getElem (h := h)]
  exact List.getElem_mem _

/-- Neither the padding character nor whitespace is in the alphabet (R281, R284). -/
theorem indexOf_pad : indexOf 0x3D#8 = none := by decide +kernel

theorem indexOf_of_isSpace {c : Byte} (h : isSpace c = true) : indexOf c = none := by
  have hall : ∀ c : Byte, isSpace c = true → indexOf c = none := by decide +kernel
  exact hall c h

theorem isSpace_charOf {k : Nat} (h : k < 64) : isSpace (charOf k) = false := by
  refine Bool.eq_false_iff.2 fun hs => ?_
  have hnone := indexOf_of_isSpace hs
  rw [indexOf_charOf k h] at hnone
  cases hnone

theorem charOf_ne_pad {k : Nat} (h : k < 64) : charOf k ≠ 0x3D#8 := fun he => by
  have hsome := indexOf_charOf k h
  rw [he, indexOf_pad] at hsome
  cases hsome

/-! ### Bytes as indices -/

/-- The indices of the characters that stand for a byte sequence, the bits a short last group lacks being zero (R282, R283). -/
def groupIndices : List Byte → List Nat
  | b0 :: b1 :: b2 :: rest =>
    let g := b0.toNat * 65536 + b1.toNat * 256 + b2.toNat
    [g / 262144, g / 4096 % 64, g / 64 % 64, g % 64] ++ groupIndices rest
  | [b0, b1] =>
    let g := b0.toNat * 65536 + b1.toNat * 256
    [g / 262144, g / 4096 % 64, g / 64 % 64]
  | [b0] =>
    let g := b0.toNat * 65536
    [g / 262144, g / 4096 % 64]
  | [] => []

/-- How many padding characters the text of `n` bytes ends with (R283). -/
def padsOf (n : Nat) : Nat := (3 - n % 3) % 3

theorem base64_eq (xs : List Byte) :
    base64 xs = (groupIndices xs).map charOf ++ List.replicate (padsOf xs.length) 0x3D#8 := by
  induction xs using base64.induct with
  | case1 b0 b1 b2 rest ih =>
    have hpads : padsOf (b0 :: b1 :: b2 :: rest).length = padsOf rest.length := by
      simp only [padsOf, List.length_cons]; omega
    rw [base64, groupIndices, hpads, ih]
    rfl
  | case2 | case3 | case4 => rfl

theorem groupIndices_lt (xs : List Byte) : ∀ k ∈ groupIndices xs, k < 64 := by
  induction xs using groupIndices.induct with
  | case1 b0 b1 b2 rest ih =>
    intro k hk
    have := b0.isLt
    have := b1.isLt
    have := b2.isLt
    simp only [groupIndices, List.mem_append, List.mem_cons, List.not_mem_nil, or_false] at hk
    rcases hk with (h | h | h | h) | h
    · omega
    · omega
    · omega
    · omega
    · exact ih k h
  | case2 b0 b1 =>
    intro k hk
    have := b0.isLt
    have := b1.isLt
    simp only [groupIndices, List.mem_cons, List.not_mem_nil, or_false] at hk
    omega
  | case3 b0 =>
    intro k hk
    have := b0.isLt
    simp only [groupIndices, List.mem_cons, List.not_mem_nil, or_false] at hk
    omega
  | case4 => intro k hk; cases hk

/-- Four characters, padding included, stand for each group of three bytes (R283). -/
theorem length_groupIndices (xs : List Byte) : (groupIndices xs).length + padsOf xs.length = 4 * ((xs.length + 2) / 3) := by
  induction xs using groupIndices.induct with
  | case1 b0 b1 b2 rest ih =>
    simp only [groupIndices, padsOf, List.length_append, List.length_cons, List.length_nil] at ih ⊢
    omega
  | case2 | case3 => simp [groupIndices, padsOf]
  | case4 => rfl

theorem length_base64 (xs : List Byte) : (base64 xs).length = 4 * ((xs.length + 2) / 3) := by
  rw [base64_eq, List.length_append, List.length_map, List.length_replicate, length_groupIndices]

/-- The groups of these indices are the bytes (R285). -/
theorem groupBytes_groupIndices (xs : List Byte) : groupBytes (groupIndices xs) = xs := by
  have hbyte : ∀ (b : Byte) (n : Nat), n % 256 = b.toNat → BitVec.ofNat 8 n = b := fun b n h =>
    BitVec.eq_of_toNat_eq (by rw [BitVec.toNat_ofNat]; exact h)
  induction xs using groupIndices.induct with
  | case1 b0 b1 b2 rest ih =>
    have := b0.isLt
    have := b1.isLt
    have := b2.isLt
    rw [groupIndices, List.cons_append, List.cons_append, List.cons_append, List.cons_append, List.nil_append, groupBytes,
      ih, hbyte b0 _ (by omega), hbyte b1 _ (by omega), hbyte b2 _ (by omega)]
    rfl
  | case2 b0 b1 =>
    have := b0.isLt
    have := b1.isLt
    rw [groupIndices, groupBytes, hbyte b0 _ (by omega), hbyte b1 _ (by omega)]
  | case3 b0 =>
    have := b0.isLt
    rw [groupIndices, groupBytes, hbyte b0 _ (by omega)]
  | case4 => rfl

end Sys2Proof.Ref

namespace Sys2Proof.Machine

/-! ### ENCODE_PRINT -/

theorem byteGroup_toNat (b0 b1 b2 : Byte) :
    (byteGroup b0 b1 b2).toNat = b0.toNat * 65536 + b1.toNat * 256 + b2.toNat := by
  have := b1.isLt
  have := b2.isLt
  rw [byteGroup, BitVec.toNat_append, BitVec.toNat_append, ← Nat.shiftLeft_add_eq_or_of_lt b1.isLt,
    ← Nat.shiftLeft_add_eq_or_of_lt b2.isLt, Nat.shiftLeft_eq, Nat.shiftLeft_eq]
  omega

theorem groupIndex_eq (g : BitVec 24) (k : Nat) : groupIndex g k = g.toNat / 2 ^ (18 - 6 * k) % 64 := by
  rw [groupIndex, BitVec.extractLsb'_toNat, Nat.shiftRight_eq_div_pow]

/-- The first indices of a group of bytes. -/
theorem groupIndex_byteGroup (b0 b1 b2 : Byte) : (List.range 4).map (groupIndex (byteGroup b0 b1 b2)) =
    Ref.groupIndices [b0, b1, b2] := by
  have := b0.isLt
  have := b1.isLt
  have := b2.isLt
  have hfour : List.range 4 = [0, 1, 2, 3] := rfl
  simp only [hfour, List.map_cons, List.map_nil, groupIndex_eq, byteGroup_toNat, Ref.groupIndices, List.append_nil]
  refine congrArg₂ _ (by omega) ?_
  norm_num

theorem groupIndices_two (b0 b1 : Byte) : Ref.groupIndices [b0, b1] = (Ref.groupIndices [b0, b1, 0#8]).take 3 := by
  simp [Ref.groupIndices]

theorem groupIndices_one (b0 : Byte) : Ref.groupIndices [b0] = (Ref.groupIndices [b0, 0#8, 0#8]).take 2 := by
  simp [Ref.groupIndices]

/-- The characters of a group's first indices (R282). -/
theorem groupChars_eq (b0 b1 b2 : Byte) {n : Nat} (hn : n ≤ 4) :
    groupChars (byteGroup b0 b1 b2) n = ((Ref.groupIndices [b0, b1, b2]).take n).map Ref.charOf := by
  have hlt : ∀ k, groupIndex (byteGroup b0 b1 b2) k < 64 := fun k => by rw [groupIndex_eq]; omega
  rw [← groupIndex_byteGroup, ← List.map_take, List.take_range, Nat.min_eq_left hn, groupChars, List.map_map]
  exact List.map_congr_left fun k _ => Ref.charOf_eq_b64Char _ (hlt k)

theorem appendAll_withIposGrp (xs : List Byte) (s : State) (n : Nat) (g : BitVec 24) :
    appendAll xs { s with ipos := n, grp := g } = { appendAll xs s with ipos := n, grp := g } := by
  induction xs generalizing s with
  | nil => rfl
  | cons x xs ih => exact ih (append x s)

theorem encodeGroup_eq (g : BitVec 24) (chars pads bytes : Nat) (s : State) : encodeGroup g chars pads bytes s =
    { appendAll (groupChars g chars ++ List.replicate pads 0x3D#8) s with ipos := s.ipos + bytes, grp := g } := by
  have happend := appendAll_withIposGrp (groupChars g chars ++ List.replicate pads 0x3D#8) s s.ipos g
  rw [encodeGroup]
  dsimp only
  rw [Rom.b64PadChar, show ({ s with grp := g } : State) = { s with ipos := s.ipos, grp := g } from rfl, happend]

theorem encodeGroup_text (b0 b1 b2 : Byte) {n pads : Nat} (hn : n ≤ 4) {xs : List Byte}
    (hxs : Ref.groupIndices xs = (Ref.groupIndices [b0, b1, b2]).take n) (hpads : Ref.padsOf xs.length = pads) (s : State) :
    encodeGroup (byteGroup b0 b1 b2) n pads xs.length s =
      { appendAll (Ref.base64 xs) s with ipos := s.ipos + xs.length, grp := byteGroup b0 b1 b2 } := by
  rw [encodeGroup_eq, groupChars_eq b0 b1 b2 hn, ← hxs, ← hpads, ← Ref.base64_eq]

/-- ENCODE_PRINT appends the text of its input, group by group (R283). -/
theorem encodeGroups_eq (xs : List Byte) (s : State) :
    ∃ g, encodeGroups xs s = { appendAll (Ref.base64 xs) s with ipos := s.ipos + xs.length, grp := g } := by
  induction xs using Ref.base64.induct generalizing s with
  | case1 b0 b1 b2 rest ih =>
    obtain ⟨g, hg⟩ := ih (encodeGroup (byteGroup b0 b1 b2) 4 0 3 s)
    have hgroup : encodeGroup (byteGroup b0 b1 b2) 4 0 3 s =
        { appendAll (Ref.base64 [b0, b1, b2]) s with ipos := s.ipos + 3, grp := byteGroup b0 b1 b2 } :=
      encodeGroup_text b0 b1 b2 (Nat.le_refl 4) (xs := [b0, b1, b2]) (pads := 0) rfl (by simp [Ref.padsOf]) s
    have hlen : s.ipos + 3 + rest.length = s.ipos + (b0 :: b1 :: b2 :: rest).length := by
      simp only [List.length_cons]; omega
    have htext : Ref.base64 (b0 :: b1 :: b2 :: rest) = Ref.base64 [b0, b1, b2] ++ Ref.base64 rest := rfl
    refine ⟨g, ?_⟩
    rw [encodeGroups, hg, hgroup, appendAll_withIposGrp,
      ← appendAll_append, ← htext, ← hlen]
  | case2 b0 b1 => exact ⟨_, encodeGroup_text b0 b1 0#8 (Nat.le_succ 3) (groupIndices_two b0 b1) rfl s⟩
  | case3 b0 => exact ⟨_, encodeGroup_text b0 0#8 0#8 (by decide) (groupIndices_one b0) rfl s⟩
  | case4 => exact ⟨s.grp, rfl⟩

theorem execEncodePrint_eq (level : BitVec 4) (s : State) : ∃ g, exec (.encodePrint level) s = .next { start s with
    status := 0x06#8, outBuf := Memory.ofBytes (Ref.base64 s.input), outLen := (Ref.base64 s.input).length, ipos := s.inLen,
    grp := g } := by
  obtain ⟨g, hg⟩ := encodeGroups_eq s.input (start s)
  refine ⟨g, ?_⟩
  change execEncodePrint level s = _
  rw [execEncodePrint, hg, appendAll_of_empty rfl rfl, length_input, start_ipos, Nat.zero_add]
  rfl

/-- Settles O43: every group appends its characters, a short last one with its padding. -/
theorem encodePrintWritesBase64 : Obligations.EncodePrintWritesBase64 := by
  refine ⟨fun s level => ?_, rfl, rfl, rfl, rfl, rfl, rfl⟩
  obtain ⟨g, hg⟩ := execEncodePrint_eq level s
  exact ⟨_, hg, rfl, by rw [Ref.length_base64, length_input]⟩

end Sys2Proof.Machine
end

section
/-! PROOFS. The characters of a print-safe text (48_base64.md R284 to R288): what each class does to the group, and the end of the
text. -/

namespace Sys2Proof.Machine

/-! ### The group -/

/-- An index joins the group below what is there. -/
theorem shiftedGroup_eq (g : BitVec 24) {k : Nat} (hk : k < 64) :
    (g <<< 6) ||| BitVec.ofNat 24 k = BitVec.ofNat 24 (g.toNat * 64 + k) := by
  have hshift : (g <<< 6).toNat = (g.toNat % 2 ^ 18) <<< 6 := by
    rw [BitVec.toNat_shiftLeft, Nat.shiftLeft_eq, Nat.shiftLeft_eq]; omega
  refine BitVec.eq_of_toNat_eq ?_
  rw [BitVec.toNat_or, hshift, BitVec.toNat_ofNat, Nat.mod_eq_of_lt (by omega : k < 2 ^ 24),
    ← Nat.shiftLeft_add_eq_or_of_lt (by omega : k < 2 ^ 6), Nat.shiftLeft_eq, BitVec.toNat_ofNat]
  omega

theorem shiftLeft_eq_ofNat (g : BitVec 24) (n : Nat) : g <<< n = BitVec.ofNat 24 (g.toNat * 2 ^ n) :=
  BitVec.eq_of_toNat_eq (by rw [BitVec.toNat_shiftLeft, Nat.shiftLeft_eq, BitVec.toNat_ofNat])

/-- A group's value counts modulo 2^24. -/
theorem ofNat24_congr {m n : Nat} (h : m % 2 ^ 24 = n % 2 ^ 24) : BitVec.ofNat 24 m = BitVec.ofNat 24 n :=
  BitVec.eq_of_toNat_eq (by rw [BitVec.toNat_ofNat, BitVec.toNat_ofNat, h])

/-- The bytes of a group. -/
def bytesOf (g n : Nat) : List Byte :=
  ([BitVec.ofNat 8 (g / 65536), BitVec.ofNat 8 (g / 256), BitVec.ofNat 8 g] : List Byte).take n

theorem groupByte_ofNat (g : Nat) {n : Nat} (hn : n ≤ 3) :
    (List.range n).map (groupByte (BitVec.ofNat 24 g)) = bytesOf g n := by
  have hbyte : ∀ k ≤ 2, groupByte (BitVec.ofNat 24 g) k = BitVec.ofNat 8 (g / 2 ^ (16 - 8 * k)) := fun k hk => by
    refine BitVec.eq_of_toNat_eq ?_
    rw [groupByte, BitVec.extractLsb'_toNat, BitVec.toNat_ofNat, Nat.shiftRight_eq_div_pow, BitVec.toNat_ofNat]
    interval_cases k <;> omega
  have hthree : (List.range 3).map (groupByte (BitVec.ofNat 24 g)) = bytesOf g 3 := by
    rw [show List.range 3 = [0, 1, 2] from rfl, List.map_cons, List.map_cons, List.map_cons, hbyte 0 (by decide),
      hbyte 1 (by decide), hbyte 2 (by decide)]
    norm_num [bytesOf]
  rw [← Nat.min_eq_left hn, ← List.take_range, List.map_take, hthree, bytesOf, bytesOf, List.take_take, Nat.min_eq_left hn]

/-- An index before the last of its group. -/
theorem shiftIndex_of_ne {s : State} (hcnt : s.gcnt ≠ 3#3) {k : Nat} (hk : k < 64) :
    shiftIndex k s = { s with grp := BitVec.ofNat 24 (s.grp.toNat * 64 + k), gcnt := s.gcnt + 1#3 } := by
  rw [shiftIndex, shiftedGroup_eq s.grp hk]
  exact if_neg hcnt

/-- The last index of a group. -/
theorem shiftIndex_of_full {s : State} (hcnt : s.gcnt = 3#3) {k : Nat} (hk : k < 64) : shiftIndex k s =
    appendAll (bytesOf (s.grp.toNat * 64 + k) 3) { s with grp := BitVec.ofNat 24 (s.grp.toNat * 64 + k), gcnt := 0#3 } := by
  rw [shiftIndex, shiftedGroup_eq s.grp hk, ← groupByte_ofNat _ (Nat.le_refl 3)]
  exact if_pos hcnt

/-- `OUT` after a sequence of bytes (20_memory.md R63). -/
theorem appendAll_outputGrewBy (xs : List Byte) {s : State} (hwf : s.outBuf.wf = true) :
    Ref.outputGrewBy xs s (appendAll xs s) := by
  induction xs generalizing s with
  | nil => exact ⟨rfl, fun _ _ => rfl, fun _ hk => absurd hk (Nat.not_lt_zero _), fun _ _ => rfl⟩
  | cons x xs ih =>
    have hother {a : Nat} (ha : a ≠ s.outLen) : (append x s).outBuf.read a = s.outBuf.read a := Memory.read_write_other x ha
    obtain ⟨hgrown, hbelow, hnew, hbeyond⟩ := ih (s := append x s) (Memory.wf_write hwf _ _)
    rw [show (append x s).outLen = s.outLen + 1 from rfl] at hgrown hbelow hnew hbeyond
    rw [appendAll_cons, Ref.outputGrewBy, List.length_cons]
    refine ⟨by omega, fun a ha => ?_, fun k hk => ?_, fun a ha => ?_⟩
    · exact (hbelow a (by omega)).trans (hother (by omega))
    · cases k with
      | zero => exact (hbelow s.outLen (Nat.lt_succ_self _)).trans (Memory.read_write_same hwf s.outLen x)
      | succ k =>
        rw [List.getD_cons_succ, ← hnew k (Nat.lt_of_succ_lt_succ hk), Nat.add_right_comm]
        rfl
    · exact (hbeyond a (by omega)).trans (hother (by omega))

/-! ### The classes of characters -/

theorem padCount_of_print {s : State} (hm : s.micro = .print) : padCount s = 0 := by rw [padCount, hm]

theorem padCount_of_printPad {s : State} {p : Nat} (hm : s.micro = .printPad p) : padCount s = p := by rw [padCount, hm]

theorem alphabetChar_of_b64Inv {c : Byte} {k : Nat} (hk : Rom.b64Inv c = some k) (s : State) :
    alphabetChar c s = if padCount s = 0 then shiftIndex k s else raise .invalidBase64 s := by rw [alphabetChar, hk]

theorem alphabetChar_afterPad (c : Byte) {s : State} (hpad : padCount s ≠ 0) : alphabetChar c s = raise .invalidBase64 s := by
  cases hk : Rom.b64Inv c with
  | none => rw [alphabetChar, hk]
  | some k => rw [alphabetChar_of_b64Inv hk, if_neg hpad]

/-- The value a group takes when an index joins it, as a number below 2^24. -/
theorem ofNat24_joined (g : BitVec 24) (k : Nat) :
    BitVec.ofNat 24 (g.toNat * 64 % 2 ^ 24 + k) = BitVec.ofNat 24 (g.toNat * 64 + k) := ofNat24_congr (by omega)

theorem bytesOf_congr {m n : Nat} (h : m % 2 ^ 24 = n % 2 ^ 24) {i : Nat} (hi : i ≤ 3) : bytesOf m i = bytesOf n i := by
  rw [← groupByte_ofNat m hi, ← groupByte_ofNat n hi, ofNat24_congr h]

/-- An alphabet character with no padding before it, in a group that it does not fill. -/
theorem alphabetChar_joins {c : Byte} {s : State} {k : Nat} (hk : Rom.b64Inv c = some k) (hlt : k < 64) (hm : s.micro = .print)
    (hcnt : s.gcnt ≠ 3#3) : alphabetChar c s =
      { s with grp := BitVec.ofNat 24 (s.grp.toNat * 64 % 2 ^ 24 + k), gcnt := s.gcnt + 1#3 } := by
  rw [alphabetChar_of_b64Inv hk, if_pos (padCount_of_print hm), shiftIndex_of_ne hcnt hlt, ofNat24_joined]

/-- An alphabet character with no padding before it that fills its group. -/
theorem alphabetChar_fills {c : Byte} {s : State} {k : Nat} (hk : Rom.b64Inv c = some k) (hlt : k < 64) (hm : s.micro = .print)
    (hcnt : s.gcnt = 3#3) : alphabetChar c s = appendAll (bytesOf (s.grp.toNat * 64 % 2 ^ 24 + k) 3)
      { s with grp := BitVec.ofNat 24 (s.grp.toNat * 64 % 2 ^ 24 + k), gcnt := 0#3 } := by
  rw [alphabetChar_of_b64Inv hk, if_pos (padCount_of_print hm), shiftIndex_of_full hcnt hlt, ofNat24_joined,
    bytesOf_congr (by omega : (s.grp.toNat * 64 % 2 ^ 24 + k) % 2 ^ 24 = (s.grp.toNat * 64 + k) % 2 ^ 24) (Nat.le_refl 3)]

/-- What R288 says of an alphabet character, by the padding and the group it finds. -/
theorem exec_alphabetChar {c : Byte} {k : Nat} (hk : Rom.b64Inv c = some k) (hlt : k < 64) {i : Instr} {s : State}
    (hwf : s.outBuf.wf = true) (hi : exec i s = .next (alphabetChar c s)) :
    (s.micro = .print → s.gcnt.toNat < 3 → exec i s =
      .next { s with grp := BitVec.ofNat 24 (s.grp.toNat * 64 % 2 ^ 24 + k), gcnt := s.gcnt + 1#3 }) ∧
    (s.micro = .print → s.gcnt = 3#3 → ∃ t, exec i s = .next t ∧
      Ref.outputGrewBy (bytesOf (s.grp.toNat * 64 % 2 ^ 24 + k) 3) s t ∧
      t = { s with outBuf := t.outBuf, outLen := s.outLen + 3, grp := BitVec.ofNat 24 (s.grp.toNat * 64 % 2 ^ 24 + k),
                   gcnt := 0#3 }) ∧
    (∀ p, s.micro = .printPad (p + 1) → ∃ t, exec i s = .next t ∧ Ref.failedAs 0x72#8 s t) := by
  refine ⟨fun hm hcnt => ?_, fun hm hcnt => ⟨_, hi, ?_⟩, fun p hm => ⟨_, hi, ?_⟩⟩
  · have hne : s.gcnt ≠ 3#3 := fun h => absurd hcnt (by rw [h]; decide)
    rw [hi, alphabetChar_joins hk hlt hm hne]
  · rw [alphabetChar_fills hk hlt hm hcnt]
    exact ⟨appendAll_outputGrewBy _ (s := { s with grp := _, gcnt := 0#3 }) hwf, appendAll_frame _ _⟩
  · rw [alphabetChar_afterPad c (by rw [padCount_of_printPad hm]; exact Nat.succ_ne_zero p)]
    exact failedAs_raise .invalidBase64 s

theorem exec_b64Pad (s : State) : exec .b64Pad s = .next { s with micro := .printPad (padCount s + 1) } := rfl

/-! ### The end of the text -/

/-- The tests of R285 on `p` padding characters after `r` characters of a last group. -/
abbrev badEnd (p r : Nat) : Prop := 2 < p ∨ r = 1 ∨ (0 < p ∧ (r + p) % 4 ≠ 0)

theorem endOfText_of_badEnd {s : State} (h : badEnd (padCount s) s.gcnt.toNat) : endOfText s = raise .invalidBase64 s :=
  if_pos h

/-- A text that ends with its groups complete. -/
theorem endOfText_full {s : State} (h : ¬ badEnd (padCount s) s.gcnt.toNat) (hcnt : s.gcnt = 0#3) : endOfText s = succeed s := by
  exact (if_neg h).trans ((if_neg (by rw [hcnt]; decide)).trans (if_neg (by rw [hcnt]; decide)))

/-- A text that ends with two characters of a group. -/
theorem endOfText_two {s : State} (h : ¬ badEnd (padCount s) s.gcnt.toNat) (hcnt : s.gcnt = 2#3) :
    endOfText s = succeed (appendAll (bytesOf (s.grp.toNat * 4096) 1) { s with grp := BitVec.ofNat 24 (s.grp.toNat * 4096) }) := by
  rw [← groupByte_ofNat _ (by decide), show s.grp.toNat * 4096 = s.grp.toNat * 2 ^ 12 from rfl, ← shiftLeft_eq_ofNat]
  exact (if_neg h).trans (if_pos (by rw [hcnt]; rfl))

/-- A text that ends with three characters of a group. -/
theorem endOfText_three {s : State} (h : ¬ badEnd (padCount s) s.gcnt.toNat) (hcnt : s.gcnt = 3#3) :
    endOfText s = succeed (appendAll (bytesOf (s.grp.toNat * 64) 2) { s with grp := BitVec.ofNat 24 (s.grp.toNat * 64) }) := by
  rw [← groupByte_ofNat _ (by decide), show s.grp.toNat * 64 = s.grp.toNat * 2 ^ 6 from rfl, ← shiftLeft_eq_ofNat]
  exact (if_neg h).trans ((if_neg (by rw [hcnt]; decide)).trans (if_pos (by rw [hcnt]; rfl)))

/-- What R285 and R288 make of the end of the text after `p` padding characters. -/
theorem endOfText_acts {s : State} (hwf : s.outBuf.wf = true) (hcnt : s.gcnt.toNat ≤ 3) :
    (badEnd (padCount s) s.gcnt.toNat → Ref.failedAs 0x72#8 s (endOfText s)) ∧
    (¬ badEnd (padCount s) s.gcnt.toNat → endOfText s = { s with
      status := 0x06#8, outBuf := (endOfText s).outBuf, outLen := (endOfText s).outLen,
      grp := if s.gcnt = 2#3 then BitVec.ofNat 24 (s.grp.toNat * 4096) else if s.gcnt = 3#3 then
        BitVec.ofNat 24 (s.grp.toNat * 64) else s.grp } ∧
      (s.gcnt = 0#3 → Ref.outputGrewBy [] s (endOfText s)) ∧
      (s.gcnt = 2#3 → Ref.outputGrewBy (bytesOf (s.grp.toNat * 4096 % 2 ^ 24) 1) s (endOfText s)) ∧
      (s.gcnt = 3#3 → Ref.outputGrewBy (bytesOf (s.grp.toNat * 64 % 2 ^ 24) 2) s (endOfText s))) := by
  refine ⟨fun h => ?_, fun h => ?_⟩
  · rw [endOfText_of_badEnd h]
    exact failedAs_raise .invalidBase64 s
  · have hgrew (xs : List Byte) (g : BitVec 24) : Ref.outputGrewBy xs s (succeed (appendAll xs { s with grp := g })) :=
      appendAll_outputGrewBy xs (s := { s with grp := g }) hwf
    have hne : s.gcnt.toNat ≠ 1 := fun h1 => h (.inr (.inl h1))
    have hvalues : s.gcnt = 0#3 ∨ s.gcnt = 2#3 ∨ s.gcnt = 3#3 := by bv_omega
    rcases hvalues with h0 | h2 | h3
    · rw [endOfText_full h h0, if_neg (by rw [h0]; decide), if_neg (by rw [h0]; decide)]
      exact ⟨rfl, fun _ => hgrew [] s.grp, fun h => absurd (h0.symm.trans h) (by decide),
        fun h => absurd (h0.symm.trans h) (by decide)⟩
    · rw [endOfText_two h h2, if_pos h2, bytesOf_congr (Nat.mod_mod _ _) (by decide)]
      refine ⟨?_, fun h => absurd (h2.symm.trans h) (by decide), fun _ => hgrew _ _,
        fun h => absurd (h2.symm.trans h) (by decide)⟩
      rw [appendAll_frame]; rfl
    · rw [endOfText_three h h3, if_neg (by rw [h3]; decide), if_pos h3, bytesOf_congr (i := 2) (Nat.mod_mod _ _) (by decide)]
      refine ⟨?_, fun h => absurd (h3.symm.trans h) (by decide), fun h => absurd (h3.symm.trans h) (by decide),
        fun _ => hgrew _ _⟩
      rw [appendAll_frame]; rfl

/-- A text with nothing left ends. -/
theorem step_textEnd {s : State} (hb : s.busy = true) (hpos : s.inLen ≤ s.ipos)
    (hm : s.micro = .print ∨ ∃ p, s.micro = .printPad p) : step s = .next (endOfText s) := by
  have hleft : s.inputLeft = [] := by
    rw [← List.length_eq_zero_iff, length_inputLeft]; omega
  rw [step_running hb]
  rcases hm with hm | ⟨p, hm⟩ <;> rw [streamStep_noneLeft (by rw [hm]; rfl) hleft, endOfInput, hm]

/-- Settles O44: what `exec` does with each class, and the tests at the end of the text. -/
theorem base64CharactersShiftIntoTheGroup : Obligations.Base64CharactersShiftIntoTheGroup := by
  intro c s hcnt hwf alphabetClass
  have hc := c.isLt
  refine ⟨fun hlo hhi => ?_, fun hlo hhi => ?_, fun hlo hhi => ?_, ?_, ?_, fun hm => ?_, fun p hm => ?_, rfl,
    ⟨_, rfl, failedAs_raise .invalidBase64 s⟩, fun p hb hpos hm => ⟨_, step_textEnd hb hpos ?_, ?_⟩⟩
  · exact exec_alphabetChar (c := c) (by rw [Rom.b64Inv, if_pos ⟨hlo, hhi⟩]) (by omega) hwf rfl
  · exact exec_alphabetChar (c := c) (by rw [Rom.b64Inv, if_neg (by omega), if_pos ⟨hlo, hhi⟩]) (by omega) hwf rfl
  · exact exec_alphabetChar (c := c) (by rw [Rom.b64Inv, if_neg (by omega), if_neg (by omega), if_pos ⟨hlo, hhi⟩])
      (by omega) hwf rfl
  · exact exec_alphabetChar (c := 0x2B#8) rfl (by decide) hwf rfl
  · exact exec_alphabetChar (c := 0x2F#8) rfl (by decide) hwf rfl
  · rw [exec_b64Pad, padCount_of_print hm]
  · rw [exec_b64Pad, padCount_of_printPad hm]
  · exact hm.imp And.left fun h => ⟨p, h⟩
  · have hpads : padCount s = p := by
      rcases hm with ⟨hm, rfl⟩ | hm
      · exact padCount_of_print hm
      · exact padCount_of_printPad hm
    have hone : s.gcnt = 1#3 ↔ s.gcnt.toNat = 1 := by bv_omega
    rw [hone, ← hpads]
    exact endOfText_acts hwf hcnt

end Sys2Proof.Machine
end

section
/-! PROOFS. DECODE_PRINT over a whole text (48_base64.md R285, R288, R289): its single pass, the same as the two passes of R285, and
the round trip. -/

namespace Sys2Proof.Ref

/-! ### One pass over a text -/

/-- The indices that a text holds and how many padding characters it has seen at its end, `p` of them before it: refused at an
alphabet character after padding and at a character of no class (R288). -/
def scanText : Nat → List Byte → Option (List Nat × Nat)
  | p, [] => some ([], p)
  | p, c :: cs =>
    match indexOf c with
    | some k => if p = 0 then (scanText 0 cs).map fun r => (k :: r.1, r.2) else none
    | none => if c = 0x3D#8 then scanText (p + 1) cs else if isSpace c then scanText p cs else none

theorem scanText_index {c : Byte} {k : Nat} (h : indexOf c = some k) (p : Nat) (cs : List Byte) :
    scanText p (c :: cs) = if p = 0 then (scanText 0 cs).map fun r => (k :: r.1, r.2) else none := by
  rw [scanText, h]

theorem scanText_other {c : Byte} (h : indexOf c = none) (p : Nat) (cs : List Byte) : scanText p (c :: cs) =
    if c = 0x3D#8 then scanText (p + 1) cs else if isSpace c then scanText p cs else none := by
  rw [scanText, h]

theorem scanText_pad (p : Nat) (cs : List Byte) : scanText p (0x3D#8 :: cs) = scanText (p + 1) cs := by
  rw [scanText_other indexOf_pad, if_pos rfl]

theorem stripped_cons_space {c : Byte} (h : isSpace c = true) (cs : List Byte) : stripped (c :: cs) = stripped cs :=
  List.filter_cons_of_neg (by simp [h])

theorem stripped_cons_other {c : Byte} (h : isSpace c = false) (cs : List Byte) : stripped (c :: cs) = c :: stripped cs :=
  List.filter_cons_of_pos (by simp [h])

theorem scanText_stripped (p : Nat) (text : List Byte) : scanText p (stripped text) = scanText p text := by
  induction text generalizing p with
  | nil => rfl
  | cons c cs ih =>
    cases hs : isSpace c with
    | true =>
      have hpad : c ≠ 0x3D#8 := by rintro rfl; exact absurd hs (by decide)
      rw [stripped_cons_space hs, scanText_other (indexOf_of_isSpace hs), if_neg hpad, if_pos hs, ih]
    | false =>
      rw [stripped_cons_other hs, scanText, scanText, ih, ih, ih]

theorem scanText_replicate (p q : Nat) : scanText p (List.replicate q 0x3D#8) = some ([], p + q) := by
  induction q generalizing p with
  | zero => rfl
  | succ q ih => rw [List.replicate_succ, scanText_pad, ih, Nat.add_right_comm, Nat.add_assoc]

/-- Characters of the alphabet and then padding are what a text is to be. -/
theorem scanText_chars {ks : List Nat} (hks : ∀ k ∈ ks, k < 64) (p : Nat) :
    scanText 0 (ks.map charOf ++ List.replicate p 0x3D#8) = some (ks, p) := by
  induction ks with
  | nil => rw [List.map_nil, List.nil_append, scanText_replicate, Nat.zero_add]
  | cons k ks ih =>
    obtain ⟨hk, hks⟩ := List.forall_mem_cons.1 hks
    rw [List.map_cons, List.cons_append, scanText_index (indexOf_charOf k hk), if_pos rfl, ih hks]
    rfl

theorem lt_of_scanText {text : List Byte} {p q : Nat} {ks : List Nat} (h : scanText p text = some (ks, q)) :
    ∀ k ∈ ks, k < 64 := by
  induction text generalizing p ks with
  | nil => cases h; exact fun _ hk => by cases hk
  | cons c cs ih =>
    cases hc : indexOf c with
    | some k =>
      rw [scanText_index hc] at h
      split_ifs at h
      obtain ⟨⟨ks', q'⟩, hr, heq⟩ := Option.map_eq_some_iff.1 h
      cases heq
      exact List.forall_mem_cons.2 ⟨(of_indexOf hc).1, ih hr⟩
    | none =>
      rw [scanText_other hc] at h
      split_ifs at h
      · exact ih h
      · exact ih h

/-- A text without whitespace that passes is characters of the alphabet and then padding. -/
theorem eq_of_scanText {text : List Byte} (hs : ∀ c ∈ text, isSpace c = false) {p q : Nat} {ks : List Nat}
    (h : scanText p text = some (ks, q)) :
    p ≤ q ∧ (p ≠ 0 → ks = []) ∧ text = ks.map charOf ++ List.replicate (q - p) 0x3D#8 := by
  induction text generalizing p ks with
  | nil => cases h; simp
  | cons c cs ih =>
    obtain ⟨hsc, hscs⟩ := List.forall_mem_cons.1 hs
    cases hc : indexOf c with
    | some k =>
      rw [scanText_index hc] at h
      split_ifs at h with hp
      obtain ⟨⟨ks', q'⟩, hr, heq⟩ := Option.map_eq_some_iff.1 h
      cases heq
      obtain ⟨-, -, htext⟩ := ih hscs hr
      refine ⟨by omega, fun hne => absurd hp hne, ?_⟩
      rw [List.map_cons, List.cons_append, ← (of_indexOf hc).2, hp, ← htext]
    | none =>
      simp only [scanText_other hc, hsc, Bool.false_eq_true, ↓reduceIte] at h
      split_ifs at h with hpad
      obtain ⟨hle, hnil, htext⟩ := ih hscs h
      rw [hnil (Nat.succ_ne_zero p), List.map_nil, List.nil_append] at htext
      refine ⟨by omega, fun _ => hnil (Nat.succ_ne_zero p), ?_⟩
      rw [hnil (Nat.succ_ne_zero p), List.map_nil, List.nil_append, hpad, htext, ← List.replicate_succ]
      congr 1
      omega

/-! ### The two passes -/

theorem stripped_noSpace (text : List Byte) : ∀ c ∈ stripped text, isSpace c = false := fun c hc => by
  simpa using (List.mem_filter.1 hc).2

theorem stripped_of_noSpace {text : List Byte} (h : ∀ c ∈ text, isSpace c = false) : stripped text = text :=
  List.filter_eq_self.2 fun c hc => by rw [h c hc]; rfl

theorem padding_chars {ks : List Nat} (hks : ∀ k ∈ ks, k < 64) (p : Nat) :
    padding (ks.map charOf ++ List.replicate p 0x3D#8) = p := by
  have hnone : ((ks.map charOf).reverse.takeWhile fun c => c == 0x3D#8) = [] := by
    rw [List.takeWhile_eq_nil_iff]
    intro hlen
    have hmem := List.getElem_mem hlen
    rw [List.mem_reverse] at hmem
    obtain ⟨k, hk, hck⟩ := List.mem_map.1 hmem
    simpa [← hck] using charOf_ne_pad (hks k hk)
  rw [padding, List.reverse_append, List.reverse_replicate, List.takeWhile_append_of_pos, hnone, List.append_nil,
    List.length_replicate]
  intro c hc
  rw [List.eq_of_mem_replicate hc]
  rfl

theorem mapM_indexOf_charOf {ks : List Nat} (hks : ∀ k ∈ ks, k < 64) : (ks.map charOf).mapM indexOf = some ks := by
  induction ks with
  | nil => rfl
  | cons k ks ih =>
    obtain ⟨hk, hks⟩ := List.forall_mem_cons.1 hks
    rw [List.map_cons, List.mapM_cons, indexOf_charOf k hk, ih hks]
    rfl

theorem eq_of_mapM_indexOf {cs : List Byte} {ks : List Nat} (h : cs.mapM indexOf = some ks) :
    cs = ks.map charOf ∧ ∀ k ∈ ks, k < 64 := by
  induction cs generalizing ks with
  | nil => cases h; exact ⟨rfl, fun _ hk => by cases hk⟩
  | cons c cs ih =>
    rw [List.mapM_cons] at h
    obtain ⟨k, hk, h⟩ := Option.bind_eq_some_iff.1 h
    obtain ⟨ks', hks', h⟩ := Option.bind_eq_some_iff.1 h
    cases h
    obtain ⟨hcs, hlt⟩ := ih hks'
    obtain ⟨hklt, hc⟩ := of_indexOf hk
    exact ⟨by rw [List.map_cons, ← hc, ← hcs], List.forall_mem_cons.2 ⟨hklt, hlt⟩⟩

theorem eq_take_append {body pads text : List Byte} (h : body ++ pads = text) :
    text = text.take (text.length - pads.length) ++ pads := by
  rw [← h, List.length_append, Nat.add_sub_cancel, List.take_left]

/-- A text is its body and its padding (R285). -/
theorem eq_body_padding (text : List Byte) :
    text = text.take (text.length - padding text) ++ List.replicate (padding text) 0x3D#8 := by
  have hpads : (text.reverse.takeWhile fun c => c == 0x3D#8) = List.replicate (padding text) 0x3D#8 :=
    List.eq_replicate_iff.2 ⟨rfl, fun c hc => by simpa using List.mem_takeWhile_imp hc⟩
  have hsplit := congrArg List.reverse (List.takeWhile_append_dropWhile (p := fun c => c == 0x3D#8) (l := text.reverse))
  rw [hpads, List.reverse_append, List.reverse_replicate, List.reverse_reverse] at hsplit
  have htake := eq_take_append hsplit
  rwa [List.length_replicate] at htake

/-- The single pass finds the body and the padding of R285. -/
theorem scanText_eq (text : List Byte) : scanText 0 text =
    (((stripped text).take ((stripped text).length - padding (stripped text))).mapM indexOf).map
      fun ks => (ks, padding (stripped text)) := by
  rw [← scanText_stripped]
  cases hbody : ((stripped text).take ((stripped text).length - padding (stripped text))).mapM indexOf with
  | some ks =>
    obtain ⟨hchars, hks⟩ := eq_of_mapM_indexOf hbody
    conv_lhs => rw [eq_body_padding (stripped text), hchars]
    exact scanText_chars hks _
  | none =>
    cases hscan : scanText 0 (stripped text) with
    | none => rfl
    | some r =>
      obtain ⟨ks, p⟩ := r
      have hks := lt_of_scanText hscan
      obtain ⟨-, -, htext⟩ := eq_of_scanText (stripped_noSpace text) hscan
      rw [Nat.sub_zero] at htext
      rw [htext, padding_chars hks, List.length_append, List.length_replicate, Nat.add_sub_cancel, List.take_left,
        mapM_indexOf_charOf hks] at hbody
      cases hbody

end Sys2Proof.Ref

namespace Sys2Proof.Machine

/-- The tests of R285 on what the single pass finds. -/
theorem bodyIndices_eq (text : List Byte) : Ref.bodyIndices text =
    (Ref.scanText 0 text).bind fun r => if badEnd r.2 (r.1.length % 4) then none else some r.1 := by
  rw [Ref.scanText_eq, Ref.bodyIndices]
  cases ((Ref.stripped text).take ((Ref.stripped text).length - Ref.padding (Ref.stripped text))).mapM Ref.indexOf with
  | none => exact ite_self none
  | some ks =>
    rw [Option.map_some, Option.bind_some]
    dsimp only
    by_cases hp : 2 < Ref.padding (Ref.stripped text)
    · rw [if_pos hp, if_pos (.inl hp)]
    · rw [if_neg hp]
      refine if_congr ?_ rfl rfl
      rw [badEnd, Nat.mod_add_mod]
      tauto

/-! ### The indices of a text -/

def shiftAll (ks : List Nat) (s : State) : State := ks.foldl (fun s k => shiftIndex k s) s

theorem shiftAll_cons (k : Nat) (ks : List Nat) (s : State) : shiftAll (k :: ks) s = shiftAll ks (shiftIndex k s) := rfl

theorem shiftAll_append (ks ls : List Nat) (s : State) : shiftAll (ks ++ ls) s = shiftAll ls (shiftAll ks s) :=
  List.foldl_append

/-- Appending reads and writes nothing of the text decoder. -/
theorem appendAll_withText (xs : List Byte) (s : State) (n : Nat) (g : BitVec 24) (r : BitVec 3) (m : StreamCtx) :
    appendAll xs { s with ipos := n, grp := g, gcnt := r, micro := m } =
      { appendAll xs s with ipos := n, grp := g, gcnt := r, micro := m } := by
  induction xs generalizing s with
  | nil => rfl
  | cons x xs ih => exact ih (append x s)

/-- The group does not depend on the cursor or the padding. -/
theorem shiftIndex_withCursor (k : Nat) (s : State) (n : Nat) (m : StreamCtx) :
    shiftIndex k { s with ipos := n, micro := m } = { shiftIndex k s with ipos := n, micro := m } := by
  unfold shiftIndex
  dsimp only
  split
  · rfl
  · rfl

theorem shiftAll_withCursor (ks : List Nat) (s : State) (n : Nat) (m : StreamCtx) :
    shiftAll ks { s with ipos := n, micro := m } = { shiftAll ks s with ipos := n, micro := m } := by
  induction ks generalizing s with
  | nil => rfl
  | cons k ks ih => rw [shiftAll_cons, shiftIndex_withCursor, ih, shiftAll_cons]

theorem joined_ofNat (n k : Nat) : BitVec.ofNat 24 ((BitVec.ofNat 24 n).toNat * 64 + k) = BitVec.ofNat 24 (n * 64 + k) :=
  ofNat24_congr (by rw [BitVec.toNat_ofNat]; omega)

theorem groupBytes_two (k0 k1 : Nat) : Ref.groupBytes [k0, k1] = bytesOf (k0 * 262144 + k1 * 4096) 1 := by
  simp [Ref.groupBytes, bytesOf]

theorem groupBytes_three (k0 k1 k2 : Nat) : Ref.groupBytes [k0, k1, k2] = bytesOf (k0 * 262144 + k1 * 4096 + k2 * 64) 2 := by
  simp [Ref.groupBytes, bytesOf]

theorem groupBytes_four (k0 k1 k2 k3 : Nat) :
    Ref.groupBytes [k0, k1, k2, k3] = bytesOf (k0 * 262144 + k1 * 4096 + k2 * 64 + k3) 3 := by
  simp [Ref.groupBytes, bytesOf]

theorem shiftAll_two {s : State} (hcnt : s.gcnt = 0#3) {k0 k1 : Nat} (h0 : k0 < 64) (h1 : k1 < 64) : shiftAll [k0, k1] s =
    { s with grp := BitVec.ofNat 24 ((s.grp.toNat * 64 + k0) * 64 + k1), gcnt := 2#3 } := by
  rw [shiftAll_cons, shiftAll_cons, shiftIndex_of_ne (by rw [hcnt]; decide) h0,
    shiftIndex_of_ne (by dsimp only; rw [hcnt]; decide) h1]
  dsimp only
  rw [joined_ofNat, hcnt]
  rfl

theorem shiftAll_three {s : State} (hcnt : s.gcnt = 0#3) {k0 k1 k2 : Nat} (h0 : k0 < 64) (h1 : k1 < 64) (h2 : k2 < 64) :
    shiftAll [k0, k1, k2] s =
      { s with grp := BitVec.ofNat 24 (((s.grp.toNat * 64 + k0) * 64 + k1) * 64 + k2), gcnt := 3#3 } := by
  have htwo : shiftAll [k0, k1, k2] s = shiftAll [k2] (shiftAll [k0, k1] s) := shiftAll_append [k0, k1] [k2] s
  rw [htwo, shiftAll_two hcnt h0 h1, shiftAll_cons, shiftIndex_of_ne (show (2#3 : BitVec 3) ≠ 3#3 by decide) h2]
  dsimp only
  rw [joined_ofNat]
  rfl

theorem shiftAll_four {s : State} (hcnt : s.gcnt = 0#3) {k0 k1 k2 k3 : Nat} (h0 : k0 < 64) (h1 : k1 < 64) (h2 : k2 < 64)
    (h3 : k3 < 64) : shiftAll [k0, k1, k2, k3] s = { appendAll (Ref.groupBytes [k0, k1, k2, k3]) s with
      grp := BitVec.ofNat 24 (k0 * 262144 + k1 * 4096 + k2 * 64 + k3), gcnt := 0#3 } := by
  have hthree : shiftAll [k0, k1, k2, k3] s = shiftAll [k3] (shiftAll [k0, k1, k2] s) := shiftAll_append [k0, k1, k2] [k3] s
  rw [hthree, shiftAll_three hcnt h0 h1 h2, shiftAll_cons, shiftIndex_of_full rfl h3]
  dsimp only
  rw [joined_ofNat, ofNat24_congr (by omega : ((((s.grp.toNat * 64 + k0) * 64 + k1) * 64 + k2) * 64 + k3) % 2 ^ 24 =
    (k0 * 262144 + k1 * 4096 + k2 * 64 + k3) % 2 ^ 24), bytesOf_congr (n := k0 * 262144 + k1 * 4096 + k2 * 64 + k3)
    (by rw [BitVec.toNat_ofNat]; omega) (Nat.le_refl 3), groupBytes_four]
  exact appendAll_withText _ s s.ipos _ _ s.micro

/-- The group after the indices of a text, as R285 assigns it. -/
def groupAfter (ks : List Nat) (g : BitVec 24) : BitVec 24 := if ks = [] then g else BitVec.ofNat 24 (Ref.lastGrp ks)

theorem groupAfter_four (k0 k1 k2 k3 : Nat) (rest : List Nat) (g : BitVec 24) :
    groupAfter (k0 :: k1 :: k2 :: k3 :: rest) g =
      groupAfter rest (BitVec.ofNat 24 (k0 * 262144 + k1 * 4096 + k2 * 64 + k3)) := by
  cases rest with
  | nil => simp [groupAfter, Ref.lastGrp]
  | cons k ks => simp [groupAfter, Ref.lastGrp]

theorem groupAfter_two (k0 k1 : Nat) (g : BitVec 24) : groupAfter [k0, k1] g = BitVec.ofNat 24 (k0 * 262144 + k1 * 4096) := by
  simp [groupAfter, Ref.lastGrp]

theorem groupAfter_three (k0 k1 k2 : Nat) (g : BitVec 24) :
    groupAfter [k0, k1, k2] g = BitVec.ofNat 24 (k0 * 262144 + k1 * 4096 + k2 * 64) := by
  simp [groupAfter, Ref.lastGrp]

/-- The bytes and the group of a text of these indices that ends as R285 allows. -/
theorem endOfText_shiftAll {ks : List Nat} (hks : ∀ k ∈ ks, k < 64) {s : State} (hcnt : s.gcnt = 0#3) {n : Nat}
    {m : StreamCtx} :
    (shiftAll ks s).gcnt.toNat = ks.length % 4 ∧
    (¬ badEnd (padCount { s with micro := m }) (ks.length % 4) →
      endOfText { shiftAll ks s with ipos := n, micro := m } = succeed { appendAll (Ref.groupBytes ks) s with
        ipos := n, grp := groupAfter ks s.grp, gcnt := (shiftAll ks s).gcnt, micro := m }) := by
  induction ks using Ref.groupBytes.induct generalizing s with
  | case1 k0 k1 k2 k3 rest ih =>
    simp only [List.forall_mem_cons] at hks
    obtain ⟨h0, h1, h2, h3, hrest⟩ := hks
    have hfour : shiftAll (k0 :: k1 :: k2 :: k3 :: rest) s = shiftAll rest (shiftAll [k0, k1, k2, k3] s) :=
      shiftAll_append [k0, k1, k2, k3] rest s
    have hmod : (k0 :: k1 :: k2 :: k3 :: rest).length % 4 = rest.length % 4 := by simp only [List.length_cons]; omega
    have hbytes : Ref.groupBytes (k0 :: k1 :: k2 :: k3 :: rest) =
      Ref.groupBytes [k0, k1, k2, k3] ++ Ref.groupBytes rest := rfl
    rw [hfour, hmod, hbytes, appendAll_append, groupAfter_four, shiftAll_four hcnt h0 h1 h2 h3]
    obtain ⟨hrem, hend⟩ := ih hrest (s := { appendAll (Ref.groupBytes [k0, k1, k2, k3]) s with
      grp := BitVec.ofNat 24 (k0 * 262144 + k1 * 4096 + k2 * 64 + k3), gcnt := 0#3 }) rfl
    refine ⟨hrem, fun h => (hend h).trans (congrArg succeed ?_)⟩
    have hmoved := appendAll_withText (Ref.groupBytes rest) (appendAll (Ref.groupBytes [k0, k1, k2, k3]) s)
      (appendAll (Ref.groupBytes [k0, k1, k2, k3]) s).ipos (BitVec.ofNat 24 (k0 * 262144 + k1 * 4096 + k2 * 64 + k3)) 0#3
      (appendAll (Ref.groupBytes [k0, k1, k2, k3]) s).micro
    dsimp only at hmoved ⊢
    rw [hmoved]
  | case2 k0 k1 k2 =>
    simp only [List.forall_mem_cons] at hks
    obtain ⟨h0, h1, h2, -⟩ := hks
    rw [shiftAll_three hcnt h0 h1 h2, show [k0, k1, k2].length % 4 = (3#3 : BitVec 3).toNat from rfl]
    refine ⟨rfl, fun h => (endOfText_three (s := { s with
      ipos := n, grp := BitVec.ofNat 24 (((s.grp.toNat * 64 + k0) * 64 + k1) * 64 + k2), gcnt := 3#3, micro := m }) h rfl).trans
      (congrArg succeed ?_)⟩
    have hvalue : (BitVec.ofNat 24 (((s.grp.toNat * 64 + k0) * 64 + k1) * 64 + k2)).toNat * 64 % 2 ^ 24 =
      (k0 * 262144 + k1 * 4096 + k2 * 64) % 2 ^ 24 := by rw [BitVec.toNat_ofNat]; omega
    dsimp only
    rw [bytesOf_congr hvalue (by decide), ofNat24_congr hvalue, groupBytes_three, groupAfter_three]
    exact appendAll_withText _ s n _ _ m
  | case3 k0 k1 =>
    simp only [List.forall_mem_cons] at hks
    obtain ⟨h0, h1, -⟩ := hks
    rw [shiftAll_two hcnt h0 h1, show [k0, k1].length % 4 = (2#3 : BitVec 3).toNat from rfl]
    refine ⟨rfl, fun h => (endOfText_two (s := { s with
      ipos := n, grp := BitVec.ofNat 24 ((s.grp.toNat * 64 + k0) * 64 + k1), gcnt := 2#3, micro := m }) h rfl).trans
      (congrArg succeed ?_)⟩
    have hvalue : (BitVec.ofNat 24 ((s.grp.toNat * 64 + k0) * 64 + k1)).toNat * 4096 % 2 ^ 24 =
      (k0 * 262144 + k1 * 4096) % 2 ^ 24 := by rw [BitVec.toNat_ofNat]; omega
    dsimp only
    rw [bytesOf_congr hvalue (by decide), ofNat24_congr hvalue, groupBytes_two, groupAfter_two]
    exact appendAll_withText _ s n _ _ m
  | case4 ks hfour hthree htwo =>
    match ks with
    | [] =>
      refine ⟨by rw [shiftAll, List.foldl_nil, hcnt]; rfl, fun h => ?_⟩
      have hfull : ¬ badEnd (padCount { s with micro := m }) s.gcnt.toNat := by rw [hcnt]; exact h
      exact endOfText_full (s := { s with ipos := n, micro := m }) hfull hcnt
    | [k] =>
      refine ⟨?_, fun h => absurd (.inr (.inl rfl)) h⟩
      rw [shiftAll_cons, shiftIndex_of_ne (by rw [hcnt]; decide) (hks k List.mem_cons_self)]
      show (s.gcnt + 1#3).toNat = 1
      rw [hcnt]
      rfl
    | [k0, k1] => exact absurd rfl (htwo k0 k1)
    | [k0, k1, k2] => exact absurd rfl (hthree k0 k1 k2)
    | k0 :: k1 :: k2 :: k3 :: rest => exact absurd rfl (hfour k0 k1 k2 k3 rest)

/-! ### DECODE_PRINT -/

theorem exec_printInstr_alphabet {c : Byte} {k : Nat} (h : Ref.indexOf c = some k) (s : State) :
    exec (printInstr c) s = .next (alphabetChar c s) := by
  have hk : Rom.b64Inv c = some k := (Ref.b64Inv_eq_indexOf c).trans h
  rw [printInstr]
  split_ifs with hupper hlower hdigit hplus hslash hpad hws
  · rfl
  · rfl
  · rfl
  · rw [hplus]; rfl
  · rw [hslash]; rfl
  all_goals rw [Rom.b64Inv, if_neg hupper, if_neg hlower, if_neg hdigit, if_neg hplus, if_neg hslash] at hk; cases hk

theorem alphabetChar_shifts {c : Byte} {k : Nat} (h : Ref.indexOf c = some k) {s : State} (hp : padCount s = 0) :
    alphabetChar c s = shiftIndex k s := by
  rw [alphabetChar_of_b64Inv ((Ref.b64Inv_eq_indexOf c).trans h), if_pos hp]

theorem mem_b64Ws_iff (c : Byte) : c ∈ Rom.b64Ws ↔ Ref.isSpace c = true := List.contains_iff_mem.symm

theorem exec_printInstr_other {c : Byte} (h : Ref.indexOf c = none) (s : State) :
    exec (printInstr c) s = .next (if c = 0x3D#8 then { s with micro := .printPad (padCount s + 1) }
      else if Ref.isSpace c then s else raise .invalidBase64 s) := by
  rw [printInstr_of_b64Inv_eq_none ((Ref.b64Inv_eq_indexOf c).trans h), Rom.b64PadChar]
  simp only [mem_b64Ws_iff]
  split_ifs
  · rfl
  · rfl
  · rfl

/-- The running text decoder. -/
def readsText (s : State) : Prop := s.micro = .print ∨ ∃ p, s.micro = .printPad p

theorem readsText.readsBytes {s : State} (h : readsText s) : s.micro.readsBytes = true := by
  rcases h with h | ⟨p, h⟩ <;> rw [h] <;> rfl

theorem streamStep_print {s : State} (hm : readsText s) {c : Byte} {cs : List Byte} (hleft : s.inputLeft = c :: cs) :
    streamStep s = exec (printInstr c) { s with ipos := s.ipos + 1 } := by
  refine streamStep_bytes (bs := [c]) hm.readsBytes hleft ?_
  have hd : decodePrintChar (bytesBits (c :: cs)) = .ok (printInstr c, bytesBits cs) := by
    rw [bytesBits_cons, ← encode_printInstr, decodePrintChar_encode (printInstr_ctx c) (printInstr_wf c)]
  rcases hm with hm | ⟨p, hm⟩ <;> rw [hm] <;> exact hd

/-- How DECODE_PRINT ends from a state of its run, given what the pass over the rest of its text finds. -/
def textEnd (result : Option (List Nat × Nat)) (s t : State) : Prop :=
  match result with
  | some r => ∃ m, padCount { s with micro := m } = r.2 ∧
      t = endOfText { shiftAll r.1 s with ipos := s.inLen, micro := m }
  | none => Ref.failedAs 0x72#8 { s with ipos := t.ipos, grp := t.grp, gcnt := t.gcnt, micro := t.micro } t

theorem textEnd_moved {result : Option (List Nat × Nat)} {s t : State} {n : Nat} {m : StreamCtx}
    (h : textEnd result { s with ipos := n, micro := m } t) : textEnd result s t := by
  cases result with
  | none => exact h
  | some r =>
    obtain ⟨m', hpads, ht⟩ := h
    refine ⟨m', hpads, ht.trans ?_⟩
    rw [shiftAll_withCursor]

theorem textEnd_shifted {result : Option (List Nat × Nat)} {s t : State} {k : Nat}
    (h : textEnd result (shiftIndex k s) t) : textEnd (result.map fun r => (k :: r.1, r.2)) s t := by
  cases result with
  | none => rw [shiftIndex_frame] at h; exact h
  | some r =>
    obtain ⟨m, hpads, ht⟩ := h
    have hlen : (shiftIndex k s).inLen = s.inLen := by rw [shiftIndex_frame]
    rw [hlen] at ht
    exact ⟨m, hpads, ht⟩

/-- A text refused at a character. -/
theorem textEnd_raised (s : State) (n : Nat) : textEnd none s (raise .invalidBase64 { s with ipos := n }) := by
  rw [raise_frame]
  rfl

theorem ended_endOfText (s : State) : (endOfText s).ended := by
  unfold endOfText
  dsimp only
  split
  · exact ended_raise _ _
  · split
    · exact ended_succeed _
    · split
      · exact ended_succeed _
      · exact ended_succeed _

theorem textEnd.ended {result : Option (List Nat × Nat)} {s t : State} (h : textEnd result s t) : t.ended := by
  cases result with
  | none => rw [show t = _ from h]; exact .inr ⟨.invalidBase64, rfl⟩
  | some r =>
    obtain ⟨m, -, ht⟩ := h
    rw [ht]
    exact ended_endOfText _

/-- DECODE_PRINT from any point of its text on: character by character to the end, or to the first one refused (R288). -/
theorem runStream_print (text : List Byte) {s : State} {n : Nat} (hb : s.busy = true) (hm : readsText s)
    (hpos : s.ipos ≤ s.inLen) (hleft : s.inputLeft = text) (hn : text.length < n) :
    ∃ t, runStream n s = .next t ∧ textEnd (Ref.scanText (padCount s) text) s t := by
  obtain ⟨n, rfl⟩ : ∃ m, n = m + 1 := Nat.exists_eq_add_one.2 (by omega)
  induction text generalizing s n with
  | nil =>
    have hstep : streamStep s = .next (endOfText s) := by
      rw [streamStep_noneLeft hm.readsBytes hleft, endOfInput]
      rcases hm with hm | ⟨p, hm⟩ <;> rw [hm]
    refine ⟨_, (runStream_succ hb hstep).trans (runStream_ended (endOfText_busy s)), s.micro, rfl, ?_⟩
    exact congrArg endOfText (withIpos_of_noneLeft hpos hleft).symm
  | cons c cs ih =>
    have hstep := streamStep_print hm hleft
    obtain ⟨hpos', hleft'⟩ := inputLeft_after (bs := [c]) hpos hleft
    obtain ⟨n, rfl⟩ : ∃ m, n = m + 1 := Nat.exists_eq_add_one.2 (by rw [List.length_cons] at hn; omega)
    rw [List.length_cons] at hn
    cases hc : Ref.indexOf c with
    | some k =>
      rw [Ref.scanText_index hc]
      rw [exec_printInstr_alphabet hc] at hstep
      by_cases hp : padCount s = 0
      · rw [alphabetChar_shifts (s := { s with ipos := s.ipos + 1 }) hc hp] at hstep
        obtain ⟨t, ht, hend⟩ := ih (s := shiftIndex k { s with ipos := s.ipos + 1 }) (by rw [shiftIndex_frame]; exact hb)
          (by rw [shiftIndex_frame]; exact hm) (by rw [shiftIndex_frame]; exact hpos')
          (by rw [shiftIndex_frame]; exact hleft') n (by omega)
        have hpads : padCount (shiftIndex k { s with ipos := s.ipos + 1 }) = 0 := by rw [shiftIndex_frame]; exact hp
        rw [hpads] at hend
        rw [if_pos hp]
        exact ⟨t, (runStream_succ hb hstep).trans ht, textEnd_moved (m := s.micro) (textEnd_shifted hend)⟩
      · rw [if_neg hp]
        rw [alphabetChar_afterPad (s := { s with ipos := s.ipos + 1 }) c hp] at hstep
        exact ⟨_, (runStream_succ hb hstep).trans (runStream_ended (raise_busy _ _)), textEnd_raised s _⟩
    | none =>
      rw [Ref.scanText_other hc]
      rw [exec_printInstr_other hc] at hstep
      by_cases hpad : c = 0x3D#8
      · rw [if_pos hpad] at hstep ⊢
        obtain ⟨t, ht, hend⟩ := ih (s := { s with ipos := s.ipos + 1, micro := .printPad (padCount s + 1) }) hb
          (.inr ⟨_, rfl⟩) hpos' hleft' n (by omega)
        exact ⟨t, (runStream_succ hb hstep).trans ht, textEnd_moved hend⟩
      · rw [if_neg hpad] at hstep ⊢
        cases hs : Ref.isSpace c with
        | true =>
          rw [hs, if_pos rfl] at hstep
          obtain ⟨t, ht, hend⟩ := ih (s := { s with ipos := s.ipos + 1 }) hb hm hpos' hleft' n (by omega)
          exact ⟨t, (runStream_succ hb hstep).trans ht, textEnd_moved (m := s.micro) hend⟩
        | false =>
          rw [hs, if_neg Bool.false_ne_true] at hstep
          exact ⟨_, (runStream_succ hb hstep).trans (runStream_ended (raise_busy _ _)), textEnd_raised s _⟩

/-- DECODE_PRINT is that run over its whole input. -/
theorem execDecodePrint_ends (level : BitVec 4) (s : State) : ∃ t, exec (.decodePrint level) s = .next t ∧
    textEnd (Ref.scanText 0 s.input) { start s with micro := .print } t :=
  runStream_print s.input (start_busy s) (.inl rfl) (Nat.zero_le _) rfl (by rw [length_input]; exact Nat.lt_succ_self _)

theorem groupAfter_zero (ks : List Nat) : groupAfter ks 0#24 = BitVec.ofNat 24 (Ref.lastGrp ks) := by
  cases ks <;> rfl

theorem shiftAll_frame (ks : List Nat) (s : State) : shiftAll ks s = { s with
    grp := (shiftAll ks s).grp, gcnt := (shiftAll ks s).gcnt, outBuf := (shiftAll ks s).outBuf,
    outLen := (shiftAll ks s).outLen } := by
  induction ks generalizing s with
  | nil => rfl
  | cons k ks ih => rw [shiftAll_cons, ih, shiftIndex_frame]

theorem bodyIndices_eq_some {text : List Byte} {ks : List Nat} : Ref.bodyIndices text = some ks ↔
    ∃ p, Ref.scanText 0 text = some (ks, p) ∧ ¬ badEnd p (ks.length % 4) := by
  rw [bodyIndices_eq, Option.bind_eq_some_iff]
  constructor
  · rintro ⟨r, hr, h⟩
    split_ifs at h with hbad
    cases h
    exact ⟨r.2, hr, hbad⟩
  · rintro ⟨p, hr, hbad⟩
    exact ⟨(ks, p), hr, if_neg hbad⟩

/-- A text that passes the tests of R285, decoded into an empty `OUT`. -/
theorem textEnd_accepted {ks : List Nat} {p : Nat} {s t : State} (hks : ∀ k ∈ ks, k < 64) (hcnt : s.gcnt = 0#3)
    (hbuf : s.outBuf = []) (hlen : s.outLen = 0) (hgood : ¬ badEnd p (ks.length % 4)) (h : textEnd (some (ks, p)) s t) :
    ∃ r m, t = { s with
      status := 0x06#8, outBuf := Memory.ofBytes (Ref.groupBytes ks), outLen := (Ref.groupBytes ks).length, ipos := s.inLen,
      grp := groupAfter ks s.grp, gcnt := r, micro := m } := by
  obtain ⟨m, hpads, ht⟩ := h
  dsimp only at hpads ht
  rw [← hpads] at hgood
  have hdone := (endOfText_shiftAll hks hcnt (n := s.inLen) (m := m)).2 hgood
  rw [appendAll_of_empty hbuf hlen] at hdone
  exact ⟨_, m, ht.trans hdone⟩

/-- A text that fails a test of R285 at its end. -/
theorem textEnd_refused {ks : List Nat} {p : Nat} {s t : State} (hks : ∀ k ∈ ks, k < 64) (hcnt : s.gcnt = 0#3)
    (hbad : badEnd p (ks.length % 4)) (h : textEnd (some (ks, p)) s t) : textEnd none s t := by
  obtain ⟨m, hpads, ht⟩ := h
  have hrem := (endOfText_shiftAll hks hcnt (n := s.inLen) (m := m)).1
  dsimp only at hpads ht
  rw [← hpads, ← hrem] at hbad
  rw [ht, endOfText_of_badEnd hbad, raise_frame, shiftAll_frame]
  rfl

/-- A text that R285 accepts. -/
theorem execDecodePrint_of_body {s : State} {ks : List Nat} (level : BitVec 4) (h : Ref.bodyIndices s.input = some ks) :
    ∃ r m, exec (.decodePrint level) s = .next { start s with
      status := 0x06#8, outBuf := Memory.ofBytes (Ref.groupBytes ks), outLen := (Ref.groupBytes ks).length, ipos := s.inLen,
      grp := BitVec.ofNat 24 (Ref.lastGrp ks), gcnt := r, micro := m } := by
  obtain ⟨p, hscan, hgood⟩ := bodyIndices_eq_some.1 h
  obtain ⟨t, ht, hend⟩ := execDecodePrint_ends level s
  rw [hscan] at hend
  obtain ⟨r, m, hdone⟩ := textEnd_accepted (Ref.lt_of_scanText hscan) rfl rfl rfl hgood hend
  rw [← groupAfter_zero]
  exact ⟨r, m, by rw [ht, hdone]; rfl⟩

/-- A text that R285 refuses. -/
theorem execDecodePrint_of_no_body {s : State} (level : BitVec 4) (h : Ref.bodyIndices s.input = none) :
    ∃ t, exec (.decodePrint level) s = .next t ∧
      Ref.failedAs 0x72#8 { start s with ipos := t.ipos, grp := t.grp, gcnt := t.gcnt, micro := t.micro } t := by
  obtain ⟨t, ht, hend⟩ := execDecodePrint_ends level s
  refine ⟨t, ht, ?_⟩
  cases hscan : Ref.scanText 0 s.input with
  | none => rw [hscan] at hend; exact hend
  | some r =>
    obtain ⟨ks, p⟩ := r
    rw [hscan] at hend
    have hbad : badEnd p (ks.length % 4) := by
      by_contra hgood
      rw [bodyIndices_eq_some.2 ⟨p, hscan, hgood⟩] at h
      cases h
    exact textEnd_refused (s := { start s with micro := .print }) (Ref.lt_of_scanText hscan) rfl hbad hend

/-- Settles O45: the single pass finds the body and the padding of R285, and the groups of its indices are the output. -/
theorem decodePrintIsTheTwoPassDecoding : Obligations.DecodePrintIsTheTwoPassDecoding := by
  intro s level
  cases hbody : Ref.bodyIndices s.input with
  | some ks =>
    obtain ⟨r, m, ht⟩ := execDecodePrint_of_body level hbody
    have hout : Ref.unbase64 s.input = some (Ref.groupBytes ks) := by rw [Ref.unbase64, hbody]; rfl
    refine ⟨_, ht, fun out h => ?_, fun h => ?_⟩
    · rw [hout] at h
      cases h
      rfl
    · rw [hout] at h
      cases h
  | none =>
    obtain ⟨t, ht, hfail⟩ := execDecodePrint_of_no_body level hbody
    have hout : Ref.unbase64 s.input = none := by rw [Ref.unbase64, hbody]; rfl
    refine ⟨t, ht, fun out h => ?_, fun _ => ⟨?_, hfail⟩⟩
    · rw [hout] at h
      cases h
    · rw [hfail]; rfl

/-! ### The round trip -/

theorem mem_base64 {xs : List Byte} {c : Byte} (h : c ∈ Ref.base64 xs) : (∃ k < 64, c = Ref.charOf k) ∨ c = 0x3D#8 := by
  rw [Ref.base64_eq, List.mem_append] at h
  rcases h with h | h
  · obtain ⟨k, hk, rfl⟩ := List.mem_map.1 h
    exact .inl ⟨k, Ref.groupIndices_lt xs k hk, rfl⟩
  · exact .inr (List.eq_of_mem_replicate h)

theorem base64_noSpace (xs : List Byte) : ∀ c ∈ Ref.base64 xs, Ref.isSpace c = false := fun c h => by
  rcases mem_base64 h with ⟨k, hk, rfl⟩ | rfl
  · exact Ref.isSpace_charOf hk
  · decide

/-- What a text becomes without its whitespace decides its body. -/
theorem bodyIndices_of_stripped {text xs : List Byte} (h : Ref.stripped text = Ref.base64 xs) :
    Ref.bodyIndices text = some (Ref.groupIndices xs) := by
  have hscan : Ref.scanText 0 text = some (Ref.groupIndices xs, Ref.padsOf xs.length) := by
    rw [← Ref.scanText_stripped, h, Ref.base64_eq, Ref.scanText_chars (Ref.groupIndices_lt xs)]
  have hlen := Ref.length_groupIndices xs
  refine bodyIndices_eq_some.2 ⟨_, hscan, ?_⟩
  have hpads : Ref.padsOf xs.length < 3 := Nat.mod_lt _ (by decide)
  rintro (hbad | hbad | ⟨-, hbad⟩)
  · omega
  · omega
  · omega

theorem execEncodePrint_output {level : BitVec 4} {s t : State} (h : exec (.encodePrint level) s = .next t) :
    t.output = Ref.base64 s.input := by
  obtain ⟨g, hg⟩ := execEncodePrint_eq level s
  cases hg.symm.trans h
  exact output_of_ofBytes rfl rfl

/-- Settles O46: whitespace is stripped, and the indices of the text give the bytes back. -/
theorem printRoundTripWithNoise : Obligations.PrintRoundTripWithNoise := by
  refine ⟨fun s t r level level' ht hr => ?_, fun s level => ⟨?_, ?_⟩⟩
  · rw [execEncodePrint_output ht] at hr
    have hstripped : Ref.stripped r.input = Ref.base64 s.input := by
      rcases hr with hr | hr
      · rw [hr, Ref.stripped_of_noSpace (base64_noSpace s.input)]
      · exact hr
    obtain ⟨g, m, hu⟩ := execDecodePrint_of_body level' (bodyIndices_of_stripped hstripped)
    rw [Ref.groupBytes_groupIndices] at hu
    exact ⟨_, hu, rfl, output_of_ofBytes rfl rfl⟩
  · obtain ⟨g, hg⟩ := execEncodePrint_eq level s
    refine ⟨_, hg, State.ended.done (.inl rfl), fun c hc => ?_⟩
    rw [execEncodePrint_output hg] at hc
    exact (mem_base64 hc).imp_left fun ⟨k, hk, h⟩ => h ▸ Ref.charOf_mem_alphabet hk
  · obtain ⟨t, ht, hend⟩ := execDecodePrint_ends level s
    exact ⟨t, ht, hend.ended.done⟩

end Sys2Proof.Machine
end

section
/-! PROOFS. Every command ends, and every step answers a next state (70_reset_and_hazards.md R375, 60_exceptions.md R335). -/

namespace Sys2Proof.Machine

theorem State.ended.ok_iff {s : State} (h : s.ended) : s.ok = true ↔ s.err = 0#4 := by
  rw [State.ok, State.err]
  rcases h with h | ⟨k, h⟩ <;> rw [h]
  · decide
  · cases k <;> decide

theorem State.ended.phase {s : State} (h : s.ended) : s.phase = .done := by
  rw [State.phase, h.busy, h.done]
  rfl

/-- A decoder that no longer runs has ended its command. -/
theorem DecoderEnd.ended {z : Bool} {s t : State} (h : DecoderEnd z s t) (hs : s.status = statusRunning)
    (hb : t.busy = false) : t.ended := by
  cases h with
  | running h =>
    rw [State.busy, h.status, hs] at hb
    exact absurd hb (by decide)
  | succeeded _ _ => exact ended_succeed _
  | raised k _ _ _ => exact ended_raise k _
  | checked sum _ _ ht =>
    rcases execZlibAdler32_cases ht with rfl | rfl
    · exact ended_succeed _
    · exact ended_raise _ _

theorem execDecompress_ended (level : BitVec 4) (s : State) : ∃ t, exec (.decompress level) s = .next t ∧ t.ended := by
  obtain ⟨-, t, ht, -, hrun⟩ := inflate_reaches (s := atFirstBlock false (start s)) rfl
  have hexec : exec (.decompress level) s = .next t := ht
  refine ⟨t, hexec, (execDecompress_decoderEnd hexec).ended rfl (Bool.eq_false_iff.2 fun hb => ?_)⟩
  exact absurd (hrun hb).1 Bool.false_ne_true

theorem execDecompressZlib_ended (level : BitVec 4) (s : State) :
    ∃ t, exec (.decompressZlib level) s = .next t ∧ t.ended := by
  obtain ⟨-, t, ht, -, hb⟩ := runStream_zlib_reaches s
  have hexec : exec (.decompressZlib level) s = .next t := ht
  exact ⟨t, hexec, (execDecompressZlib_decoderEnd hexec).ended rfl hb⟩

/-- Every command ends. -/
theorem exec_ended {i : Instr} (hi : i.ctx = none) (s : State) : ∃ t, exec i s = .next t ∧ t.ended := by
  cases i with
  | compress level => obtain ⟨u, -, hu⟩ := execCompress_encodes level s; exact ⟨_, hu, ended_succeed u⟩
  | compressZlib level => obtain ⟨u, v, -, hu⟩ := execCompressZlib_encodes level s; exact ⟨_, hu, ended_succeed _⟩
  | encodeChannel level => obtain ⟨u, -, hu⟩ := execEncodeChannel_encodes level s; exact ⟨_, hu, ended_succeed u⟩
  | encodePrint level => obtain ⟨u, -, hu⟩ := execEncodePrint_encodes level s; exact ⟨_, hu, ended_succeed u⟩
  | adler32 level => obtain ⟨u, v, -, hu⟩ := execAdler32_encodes level s; exact ⟨_, hu, ended_succeed _⟩
  | decompress level => exact execDecompress_ended level s
  | decompressZlib level => exact execDecompressZlib_ended level s
  | decodeChannel level => obtain ⟨t, ht, hend⟩ := execDecodeChannel_ends level s; exact ⟨t, ht, hend.ended⟩
  | decodePrint level => obtain ⟨t, ht, hend⟩ := execDecodePrint_ends level s; exact ⟨t, ht, hend.ended⟩
  | illegalOp0 | illegalOpAB | illegalOpCF | illegalLevel1011 | illegalLevel1215 => exact ⟨_, rfl, ended_raise _ _⟩
  | _ => cases hi

theorem step_ended {s : State} (hb : s.busy = false) : ∃ t, step s = .next t ∧ t.ended := by
  rw [step_idle hb]
  exact exec_ended (decodeCommand_ctx s.cmd) s

/-- A running decoder takes one more element, or ends. -/
theorem step_running_next {s : State} (hb : s.busy = true) : ∃ t, step s = .next t := by
  rcases s.micro.reads_cases with hc | hc | hc
  · obtain ⟨t, -, ht, -⟩ := deflate_decoderEnd hc
    exact ⟨t, (step_running hb).trans ht⟩
  · obtain ⟨t, ht, -⟩ := textWithin_step (s.inLen - s.ipos) s hb ⟨hc, Nat.lt_succ_self _⟩
    exact ⟨t, ht⟩
  · obtain ⟨t, ht, -⟩ := envelopeWithin_step s.micro.envelopeRounds s hb ⟨hc, Nat.le_succ _⟩
    exact ⟨t, ht⟩

/-- Settles O51: an idle state's command ends, and a running decoder has an answer to every element and to none. -/
theorem everyCommandEnds : Obligations.EveryCommandEnds := by
  refine ⟨fun s hb => ?_, fun s => ?_⟩
  · obtain ⟨t, ht, hend⟩ := step_ended hb
    exact ⟨t, ht, hend.busy, hend.done, hend.ok_iff, hend.phase⟩
  · cases hb : s.busy with
    | false => obtain ⟨t, ht, -⟩ := step_ended hb; exact ⟨t, ht⟩
    | true => exact step_running_next hb

end Sys2Proof.Machine
end

section
/-! PROOFS. The host's side (49_host_interface.md, 60_exceptions.md R330, 70_reset_and_hazards.md): reset, START, the host's moves,
the trap entry, and a step as one instruction. -/

namespace Sys2Proof.Machine

/-! ### Reset and START -/

theorem reset_cases {s r : State} (h : r = State.reset ∨ r = hostReset s) : ∃ n, r = { State.reset with draws := n } := by
  rcases h with rfl | rfl
  · exact ⟨_, rfl⟩
  · exact ⟨_, rfl⟩

theorem step_commandZero {s : State} (hb : s.busy = false) (hcmd : s.cmd = 0#8) :
    step s = .next (raise .illegalCommand (start s)) := by
  rw [step_idle hb, hcmd]
  rfl

/-- What a `STATUS` of 0 says. -/
theorem flags_of_statusZero {s : State} (h : s.status = 0#8) :
    s.busy = false ∧ s.done = false ∧ s.ok = false ∧ s.err = 0#4 ∧ s.phase = .idle := by
  rw [State.phase, State.busy, State.done, State.ok, State.err, h]
  decide

/-- Settles O1: both resets are `State.reset` but for the counter of free values, and `CMD` 0 is refused. -/
theorem resetGivesTheHostRegisterValues : Obligations.ResetGivesTheHostRegisterValues := by
  intro s r h
  obtain ⟨n, rfl⟩ := reset_cases h
  obtain ⟨hbusy, hdone, hok, herr, hphase⟩ := flags_of_statusZero (s := { State.reset with draws := n }) rfl
  exact ⟨rfl, rfl, hbusy, hdone, hok, herr, hphase, rfl, rfl, rfl, rfl, _, step_commandZero hbusy rfl, rfl, rfl, rfl⟩

/-- Settles O4: every conjunct is an assignment of `Start()`. -/
theorem startInitialisesTheCommand : Obligations.StartInitialisesTheCommand := by
  intro s
  refine ⟨rfl, ?_, start_busy s, start_done s, start_ok s, ?_⟩
  · rw [State.phase, start_busy]; rfl
  · rw [State.err, start_status]; decide

/-! ### The trap entry -/

/-- Settles O6: `raise` writes STATUS, and OUT where it is left open. -/
theorem raiseEndsTheCommand : Obligations.RaiseEndsTheCommand := by
  intro s
  refine ⟨failedAs_raise .truncatedStream s, failedAs_raise .unsupportedBlockType s, failedAs_raise .invalidBackReference s,
    failedAs_raise .invalidHeader s, raise_keeps rfl s, failedAs_raise .invalidEscape s, failedAs_raise .invalidBase64 s,
    failedAs_raise .invalidSymbol s, failedAs_raise .outputLimitExceeded s, raise_keeps rfl s, fun k => ?_⟩
  have hcode : k.code ≠ 0#4 := by cases k <;> decide
  exact ⟨(ended_raise k s).phase, raise_busy k s, raise_done k s, raise_ok k s, raise_err k s,
    fun h => hcode ((raise_err k s).symm.trans h)⟩

/-! ### The host's moves -/

theorem hostLoad_input {s t : State} {xs : List Byte} (hwf : s.inBuf.wf = true)
    (ht : t = { s with inBuf := s.inBuf.writeBytes 0 xs, inLen := xs.length }) : t.input = xs := by
  rw [ht]
  exact Memory.bytes_writeBytes hwf xs

/-- Settles O7: each move tests `busy` or `done`, and writes what it names. -/
theorem hostMovesBetweenCommands : Obligations.HostMovesBetweenCommands := by
  intro s w n i x xs
  unfold hostWriteCmd hostWriteInLen hostWriteMaxOut hostWriteIn hostLoad hostReadCmd hostReadInLen hostReadMaxOut hostReadIn
    hostReadOutLen hostReadResult hostReadOut
  refine ⟨fun hb => ?_, fun hb => ?_, fun hd => ?_, fun hd => ?_, rfl⟩
  · rw [hb]
    exact ⟨rfl, rfl, rfl, rfl, rfl, rfl, rfl, rfl, _, rfl, fun hwf => hostLoad_input hwf rfl,
      fun a ha => Memory.read_writeBytes_other xs (.inr (by rwa [Nat.zero_add])), rfl⟩
  · rw [hb]
    exact ⟨rfl, rfl, rfl, rfl, rfl, rfl, rfl, rfl, rfl⟩
  · rw [hd]
    refine ⟨rfl, rfl, fun hi => ?_, fun hi => ?_⟩
    · rw [decide_eq_true hi]; rfl
    · rw [decide_eq_false (Nat.not_lt.2 hi)]; rfl
  · rw [hd]
    exact ⟨rfl, rfl, rfl⟩

/-! ### A step -/

/-- A cut element moves nothing of a decoder that reads no bits. -/
theorem cutElement_of_not_deflate {s : State} (h0 : s.micro ≠ .blockHeader) (h1 : s.micro ≠ .storedBody)
    (h2 : s.micro ≠ .litLen) (h3 : s.micro ≠ .distance) : cutElement s = s := by
  unfold cutElement
  cases hm : s.micro with
  | blockHeader => exact absurd hm h0
  | storedBody => exact absurd hm h1
  | litLen => exact absurd hm h2
  | distance => exact absurd hm h3
  | zlibCmf | zlibFlg | zlibPayload | zlibTrailer | escape | print | printPad => rfl

theorem endOfInput_escape {s : State} (hm : s.micro = .escape) : endOfInput s = succeed s := by rw [endOfInput, hm]

/-- Settles O2: what `fetch` decodes is what `step` runs. -/
theorem stepRunsTheDecodedInstruction : Obligations.StepRunsTheDecodedInstruction := by
  intro s
  refine ⟨step_idle, fun hb i rest hd => ?_, fun n => ⟨fun hm => ?_, fun hm => ?_, fun hm => ?_⟩, fun hb hd => ?_,
    fun hb hm hd => ?_⟩
  · exact step_element hb (by rw [fetch, hd])
  · have hc : s.micro.readsBits = true := by rcases hm with hm | hm | hm | hm <;> rw [hm] <;> rfl
    exact moveCursor_of_readsBits hc n
  · have hc : s.micro.readsBytes = true := by rcases hm with hm | hm | ⟨p, hm⟩ <;> rw [hm] <;> rfl
    exact moveCursor_of_readsBytes hc n
  · unfold moveCursor
    rcases hm with hm | hm | hm | hm <;> rw [hm]
  · have hf : fetch s = .failed .truncatedStream (cutElement s) := by rw [fetch, hd]
    exact ⟨_, _, hf, step_failed hb hf, failedAs_raise .truncatedStream _, cutElement_frame s, cutElement_of_not_deflate⟩
  · rw [step_endOfInput hb (by rw [fetch, hd]), endOfInput_escape hm]
    rfl

end Sys2Proof.Machine
end

section
/-! PROOFS. A command's answer is a function of `CMD`, the input bytes and `MAXOUT` (49_host_interface.md R306, 60_exceptions.md
R334): each command from two idle states that agree on these. -/

namespace Sys2Proof.Ref

/-! ### The greedy parse is unique -/

theorem bestAt_unique {input : List Byte} {p d d' L L' : Nat} (h : bestAt input p d L) (h' : bestAt input p d' L') :
    L = L' ∧ d = d' := by
  obtain ⟨-, hpos, hd, hmatch, hmax, hnear⟩ := h
  obtain ⟨-, hpos', hd', hmatch', hmax', hnear'⟩ := h'
  have hlen : L = L' := Nat.le_antisymm (hmax' d L hpos hd hmatch) (hmax d' L' hpos' hd' hmatch')
  subst hlen
  refine ⟨rfl, ?_⟩
  rcases Nat.lt_trichotomy d d' with hlt | heq | hlt
  · exact absurd hmatch (hnear' d hpos hlt)
  · exact heq
  · exact absurd hmatch' (hnear d' hpos' hlt)

theorem not_bestAt_of_noMatchAt {input : List Byte} {p d L : Nat} (h : noMatchAt input p) : ¬ bestAt input p d L :=
  fun ⟨hlong, hpos, hd, hmatch, _⟩ => absurd (h d L hpos hd hmatch) (Nat.not_lt.2 hlong)

theorem Symbol.greedyAt_unique {input : List Byte} {p : Nat} {sym sym' : Symbol} (h : sym.greedyAt input p)
    (h' : sym'.greedyAt input p) : sym = sym' := by
  cases sym with
  | literal x =>
    cases sym' with
    | literal y => rw [Option.some.inj (h.1.symm.trans h'.1)]
    | pair len dist => exact absurd h' (not_bestAt_of_noMatchAt h.2)
  | pair len dist =>
    cases sym' with
    | literal y => exact absurd h (not_bestAt_of_noMatchAt h'.2)
    | pair len' dist' =>
      obtain ⟨rfl, rfl⟩ := bestAt_unique h h'
      rfl

theorem Symbol.greedyAt.lt_length {sym : Symbol} {input : List Byte} {p : Nat} (h : sym.greedyAt input p) :
    p < input.length := by
  obtain ⟨hsize, hend⟩ := h.size_bounds
  omega

theorem parses_unique {input : List Byte} {p : Nat} {symbols symbols' : List Symbol} (h : parses input p symbols)
    (h' : parses input p symbols') : symbols = symbols' := by
  induction symbols generalizing p symbols' with
  | nil =>
    cases symbols' with
    | nil => rfl
    | cons sym rest =>
      have hend : p = input.length := h
      exact absurd ((parses_cons ..).1 h').1.lt_length (by omega)
  | cons sym rest ih =>
    obtain ⟨hsym, hrest⟩ := (parses_cons ..).1 h
    cases symbols' with
    | nil =>
      have hend : p = input.length := h'
      exact absurd hsym.lt_length (by omega)
    | cons sym' rest' =>
      obtain ⟨hsym', hrest'⟩ := (parses_cons ..).1 h'
      obtain rfl := Symbol.greedyAt_unique hsym hsym'
      rw [ih hrest hrest']

end Sys2Proof.Ref

namespace Sys2Proof.Machine

/-! ### COMPRESS -/

theorem bytesBits_injective {xs ys : List Byte} (h : bytesBits xs = bytesBits ys) : xs = ys := by
  have hlen := congrArg List.length h
  rw [length_bytesBits, length_bytesBits] at hlen
  have hxs := takeBytes_bytesBits xs []
  rw [h, show xs.length = ys.length by omega, takeBytes_bytesBits] at hxs
  exact (congrArg Prod.fst hxs).symm

/-- Bytes that hold the same bits and then zeros, as few as fill the last byte, are the same. -/
theorem eq_of_padded_bits {xs ys : List Byte} {bits : List Bool} {m n : Nat} (hm : m < 8) (hn : n < 8)
    (hxs : bytesBits xs = bits ++ List.replicate m false) (hys : bytesBits ys = bits ++ List.replicate n false) : xs = ys := by
  have hlenx := congrArg List.length hxs
  have hleny := congrArg List.length hys
  rw [length_bytesBits, List.length_append, List.length_replicate] at hlenx hleny
  obtain rfl : m = n := by omega
  exact bytesBits_injective (hxs.trans hys.symm)

/-- The output of a fixed block is the one sequence of bytes that holds the parse, padded to a whole byte. -/
theorem compressFixed_output_congr {s s' : State} (h : s.input = s'.input) :
    (compressFixed (start s)).output = (compressFixed (start s')).output := by
  obtain ⟨symbols, pad, hparse, hpad, hemits, hempty, -⟩ := compressFixed_emits (start_writerOk s)
  obtain ⟨symbols', pad', hparse', hpad', hemits', hempty', -⟩ := compressFixed_emits (start_writerOk s')
  have hinput : (start s).input = (start s').input := h
  rw [hinput] at hparse
  obtain rfl := Ref.parses_unique hparse hparse'
  exact eq_of_padded_bits hpad hpad' (bytesBits_output_of_emits hemits rfl ⟨rfl, rfl⟩ hempty)
    (bytesBits_output_of_emits hemits' rfl ⟨rfl, rfl⟩ hempty')

theorem exec_compress (level : BitVec 4) (s : State) :
    exec (.compress level) s = .next (succeed (compressBody level (start s))) := rfl

theorem compressBody_output_congr {s s' : State} (h : s.input = s'.input) (level : BitVec 4) :
    (compressBody level (start s)).output = (compressBody level (start s')).output := by
  by_cases hlevel : level = 0#4
  · have hzero (u : State) : (compressBody 0#4 (start u)).output = Ref.storedStream u.input := by
      have hout := Host.Outcome.next.inj ((exec_compress 0#4 u).symm.trans (compressLevelZeroStores u).1)
      exact output_of_ofBytes (congrArg State.outBuf hout) (congrArg State.outLen hout)
    rw [hlevel, hzero, hzero, h]
  · rw [compressBody, compressBody, if_neg hlevel, if_neg hlevel]
    exact compressFixed_output_congr h

/-! ### Answers that agree -/

/-- The two ends of a command agree in `STATUS`, and in the output where it is determined (R306, R332). -/
def agree (t t' : State) : Prop :=
  t.status = t'.status ∧ (t.ok = true ∨ t.err = 5#4 ∨ t.err = 15#4 → t.output = t'.output ∧ t.outLen = t'.outLen ∧
    t.outBuf = t'.outBuf)

theorem agree_of_out {t t' : State} (hstatus : t.status = t'.status) (hbuf : t.outBuf = t'.outBuf)
    (hlen : t.outLen = t'.outLen) : agree t t' :=
  ⟨hstatus, fun _ => ⟨by rw [State.output, State.output, hbuf, hlen], hlen, hbuf⟩⟩

/-- Outputs in canonical form that hold the same bytes. -/
theorem agree_of_output {t t' : State} (hstatus : t.status = t'.status) (hcanon : t.outCanonical) (hcanon' : t'.outCanonical)
    (hout : t.output = t'.output) : agree t t' := by
  have hlen := congrArg List.length hout
  rw [State.output, State.output, Memory.length_bytes, Memory.length_bytes] at hlen
  exact agree_of_out hstatus (by rw [show t.outBuf = _ from hcanon, show t'.outBuf = _ from hcanon', hout]) hlen

theorem ErrorKind.code_ne_illegal_of_not_keepsOut {k : ErrorKind} (h : k.keepsOut = false) : k.code ≠ 15#4 := by
  cases k with
  | checksumMismatch | illegalCommand => cases h
  | _ => decide

/-- After a failure that leaves the output open only `STATUS` is compared. -/
theorem agree_of_failed {t t' : State} {k : ErrorKind} (hk : k.keepsOut = false) (ht : t.status = statusFailed k)
    (ht' : t'.status = statusFailed k) : agree t t' := by
  refine ⟨ht.trans ht'.symm, fun h => absurd h ?_⟩
  rw [ok_statusFailed ht, err_statusFailed ht]
  simp [ErrorKind.code_ne_of_not_keepsOut hk, ErrorKind.code_ne_illegal_of_not_keepsOut hk]

/-! ### DECOMPRESS -/

/-- A state whose zlib payload is `xs`. -/
def State.holding (xs : List Byte) (maxOut : Nat) : State :=
  { State.reset with inBuf := Memory.ofBytes ([0x78#8, 0x9C#8] ++ xs), inLen := xs.length + 6, maxOut := maxOut }

theorem holding_payload (xs : List Byte) (maxOut : Nat) :
    (State.holding xs maxOut).inBuf.bytes 2 ((State.holding xs maxOut).inLen - 6) = xs := by
  have hall := Memory.bytes_ofBytes ([0x78#8, 0x9C#8] ++ xs)
  have hdrop := Memory.bytes_drop (Memory.ofBytes ([0x78#8, 0x9C#8] ++ xs)) 0 ([0x78#8, 0x9C#8] ++ xs).length 2
  rw [hall] at hdrop
  exact hdrop.symm

/-- Two decoders that end as a third does end in agreement. -/
theorem EndsAlike.agree {r r' z : State} (h : EndsAlike r z) (h' : EndsAlike r' z) (hr : r.ended) (hr' : r'.ended) :
    agree r r' := by
  cases h with
  | running hc h => exact absurd hr.busy (by rw [h.running.1]; decide)
  | returned hstatus hz hbuf hlen _ =>
    cases h' with
    | running hc h' => exact absurd hr'.busy (by rw [h'.running.1]; decide)
    | returned hstatus' _ hbuf' hlen' _ =>
      exact agree_of_out (hstatus.trans hstatus'.symm) (hbuf.trans hbuf'.symm) (hlen.trans hlen'.symm)
    | failed k _ _ hz' => exact absurd hz (by rw [busy_of_statusFailed hz']; decide)
  | failed k hk hstatus hz =>
    cases h' with
    | running hc h' => exact absurd hr'.busy (by rw [h'.running.1]; decide)
    | returned _ hz' _ _ _ => exact absurd hz' (by rw [busy_of_statusFailed hz]; decide)
    | failed k' hk' hstatus' hz' =>
      exact agree_of_failed hk hstatus (hstatus'.trans (hz'.symm.trans hz))

theorem execDecompress_agree {s s' t t' : State} (h : Ref.sameArguments s s') (level level' : BitVec 4)
    (ht : exec (.decompress level) s = .next t) (ht' : exec (.decompress level') s' = .next t') : agree t t' := by
  obtain ⟨hinput, -, hmax⟩ := h
  have hpayload := holding_payload s.input s.maxOut
  obtain ⟨r, z, hr, hz, hend⟩ := (start_alike hpayload.symm rfl).inflate rfl
  obtain ⟨r', z', hr', hz', hend'⟩ := (start_alike (hinput.symm.trans hpayload.symm) hmax.symm).inflate rfl
  cases hz.symm.trans hz'
  cases ht.symm.trans hr
  cases ht'.symm.trans hr'
  obtain ⟨u, hu, hended⟩ := execDecompress_ended level s
  obtain ⟨u', hu', hended'⟩ := execDecompress_ended level' s'
  cases ht.symm.trans hu
  cases ht'.symm.trans hu'
  exact hend.agree hend' hended hended'

/-! ### DECOMPRESS_ZLIB -/

theorem DecoderMove.outCanonical {s t : State} (h : DecoderMove s t) (hs : s.outCanonical) : t.outCanonical := by
  cases h with
  | read => exact hs
  | latch h => rw [h]; exact hs
  | put x _ => exact append_outCanonical hs x
  | payload => exact hs

theorem Decodes.outCanonical {s t : State} (h : Decodes s t) (hs : s.outCanonical) : t.outCanonical := by
  induction h with
  | refl => exact hs
  | tail _ hmove ih => exact hmove.outCanonical ih

/-- Where the output is determined it is in canonical form. -/
theorem DecoderEnd.outCanonical {z : Bool} {s t : State} (h : DecoderEnd z s t) (hs : s.outCanonical)
    (hkept : t.ok = true ∨ t.err = 5#4) : t.outCanonical := by
  cases h with
  | running h => exact h.outCanonical hs
  | succeeded h _ => exact h.outCanonical hs
  | raised k hk h hv => simp [ErrorKind.code_ne_of_not_keepsOut hk] at hkept
  | checked sum h _ ht =>
    cases (zlibTrailerDecidesTheEnd sum _).symm.trans ht
    exact h.outCanonical hs

/-- The bytes of `IN` that two states with the same arguments share. -/
theorem bytes_congr {s s' : State} (h : Ref.sameArguments s s') {a n : Nat} (hle : a + n ≤ s.inLen) :
    s.inBuf.bytes a n = s'.inBuf.bytes a n := by
  obtain ⟨hinput, hlen, -⟩ := h
  have hslice (u : State) (hu : a + n ≤ u.inLen) : u.inBuf.bytes a n = (u.input.drop a).take n := by
    rw [State.input, Memory.bytes_drop, Memory.bytes_take, Nat.zero_add, Nat.min_eq_left (by omega)]
  rw [hslice s hle, hslice s' (by omega), hinput]

theorem read_congr {s s' : State} (h : Ref.sameArguments s s') {a : Nat} (ha : a < s.inLen) :
    s.inBuf.read a = s'.inBuf.read a := by
  have hone := bytes_congr h (n := 1) ha
  rw [Memory.bytes_succ, Memory.bytes_succ] at hone
  exact (List.cons.inj hone).1

/-- A state whose whole input is `xs`. -/
def State.reading (xs : List Byte) (maxOut : Nat) : State :=
  { State.reset with inBuf := Memory.ofBytes xs, inLen := xs.length, maxOut := maxOut }

theorem reading_input (xs : List Byte) (maxOut : Nat) : (State.reading xs maxOut).input = xs := Memory.bytes_ofBytes xs

theorem execDecompressZlib_outCanonical {level : BitVec 4} {s t : State} (ht : exec (.decompressZlib level) s = .next t)
    (hkept : t.ok = true ∨ t.err = 5#4) : t.outCanonical :=
  (execDecompressZlib_decoderEnd ht).outCanonical rfl hkept

/-- Past the header and the length tests, the payload and the trailer decide. -/
theorem execDecompressZlib_agree_payload {s s' t t' : State} (h : Ref.sameArguments s s') (level level' : BitVec 4)
    (hlen : 6 ≤ s.inLen) (hok : Ref.headerOk (s.inBuf.read 0) (s.inBuf.read 1) = true)
    (ht : exec (.decompressZlib level) s = .next t) (ht' : exec (.decompressZlib level') s' = .next t') : agree t t' := by
  have hlen' : 6 ≤ s'.inLen := h.2.1 ▸ hlen
  have hok' : Ref.headerOk (s'.inBuf.read 0) (s'.inBuf.read 1) = true := by
    rw [← read_congr h (by omega), ← read_congr h (by omega), hok]
  have hpayload : s.inBuf.bytes 2 (s.inLen - 6) = s'.inBuf.bytes 2 (s'.inLen - 6) := by
    rw [bytes_congr h (by omega), h.2.1]
  have htrailer : s.inBuf.bytes (s.inLen - 4) 4 = s'.inBuf.bytes (s'.inLen - 4) 4 := by
    rw [bytes_congr h (by omega), h.2.1]
  obtain ⟨u, hu, -⟩ := execDecompress_ended 0#4 (State.reading (s.inBuf.bytes 2 (s.inLen - 6)) s.maxOut)
  rcases execDecompressZlib_cases level hlen hok (reading_input _ _) rfl hu with
    ⟨k, v, hk, hv, hus, hvs⟩ | ⟨hus, w, hout, -, hrun⟩
  · rcases execDecompressZlib_cases level' hlen' hok' ((reading_input _ _).trans hpayload) h.2.2 hu with
      ⟨k', v', hk', hv', hus', hvs'⟩ | ⟨hus', -⟩
    · cases ht.symm.trans hv
      cases ht'.symm.trans hv'
      exact agree_of_failed hk hvs (hvs'.trans (hus'.symm.trans hus))
    · exact absurd (hus.symm.trans hus') (by cases k <;> decide)
  · rcases execDecompressZlib_cases level' hlen' hok' ((reading_input _ _).trans hpayload) h.2.2 hu with
      ⟨k', v', hk', hv', hus', hvs'⟩ | ⟨-, w', hout', -, hrun'⟩
    · exact absurd (hus'.symm.trans hus) (by cases k' <;> decide)
    · obtain ⟨sum, hsum⟩ := exists_bigEndian_eq_bytes s.inBuf (s.inLen - 4)
      have hend := (hrun sum hsum).symm.trans ht
      have hend' := (hrun' sum (htrailer.symm.trans hsum)).symm.trans ht'
      obtain ⟨hkept, houtput, -⟩ := execZlibAdler32_result hend
      obtain ⟨hkept', houtput', -⟩ := execZlibAdler32_result hend'
      have hcanon := execDecompressZlib_outCanonical ht hkept
      have hcanon' := execDecompressZlib_outCanonical ht' hkept'
      refine agree_of_output ?_ hcanon hcanon' (by rw [houtput, houtput', hout, hout'])
      cases (zlibTrailerDecidesTheEnd sum w).symm.trans hend
      cases (zlibTrailerDecidesTheEnd sum w').symm.trans hend'
      dsimp only
      rw [hout, hout']

theorem execDecompressZlib_agree {s s' t t' : State} (h : Ref.sameArguments s s') (level level' : BitVec 4)
    (ht : exec (.decompressZlib level) s = .next t) (ht' : exec (.decompressZlib level') s' = .next t') : agree t t' := by
  have hlens := h.2.1
  obtain ⟨u, hu, hshort, hbad, hcut, -⟩ := decompressZlibChecksInOrder s level
  obtain ⟨u', hu', hshort', hbad', hcut', -⟩ := decompressZlibChecksInOrder s' level'
  cases ht.symm.trans hu
  cases ht'.symm.trans hu'
  by_cases htwo : 2 ≤ s.inLen
  · have hheader : Ref.headerOk (s.inBuf.read 0) (s.inBuf.read 1) = Ref.headerOk (s'.inBuf.read 0) (s'.inBuf.read 1) := by
      rw [read_congr h (by omega), read_congr h (by omega)]
    cases hok : Ref.headerOk (s.inBuf.read 0) (s.inBuf.read 1) with
    | false =>
      exact agree_of_failed (k := .invalidHeader) rfl (hbad htwo hok).1 (hbad' (by omega) (hheader.symm.trans hok)).1
    | true =>
      by_cases hsix : 6 ≤ s.inLen
      · exact execDecompressZlib_agree_payload h level level' hsix hok ht ht'
      · exact agree_of_failed (k := .truncatedStream) rfl (hcut htwo (by omega) hok).1
          (hcut' (by omega) (by omega) (hheader.symm.trans hok)).1
  · exact agree_of_failed (k := .truncatedStream) rfl (hshort (by omega)).1 (hshort' (by omega)).1

/-! ### Every command -/

/-- Two successes whose outputs are canonical and hold the same bytes. -/
theorem agree_succeed {u u' : State} (hcanon : u.outCanonical) (hcanon' : u'.outCanonical) (hout : u.output = u'.output) :
    agree (succeed u) (succeed u') := agree_of_output rfl hcanon hcanon' hout

theorem execCompress_agree {s s' t t' : State} (h : s.input = s'.input) (level : BitVec 4)
    (ht : exec (.compress level) s = .next t) (ht' : exec (.compress level) s' = .next t') : agree t t' := by
  cases (exec_compress level s).symm.trans ht
  cases (exec_compress level s').symm.trans ht'
  exact agree_succeed ((encodes_compressBody level (start s)).outCanonical rfl)
    ((encodes_compressBody level (start s')).outCanonical rfl) (compressBody_output_congr h level)

theorem execCompressZlib_agree {s s' t t' : State} (h : s.input = s'.input) (level : BitVec 4)
    (ht : exec (.compressZlib level) s = .next t) (ht' : exec (.compressZlib level) s' = .next t') : agree t t' := by
  have henvelope : envelopeOf (compressBody level (start s)).output s.input =
      envelopeOf (compressBody level (start s')).output s'.input := by rw [compressBody_output_congr h level, h]
  cases (execCompressZlib_eq level s).symm.trans ht
  cases (execCompressZlib_eq level s').symm.trans ht'
  exact agree_of_out ((succeed_status _).trans (succeed_status _).symm) (congrArg Memory.ofBytes henvelope)
    (congrArg List.length henvelope)

theorem execEncodeChannel_agree {s s' t t' : State} (h : s.input = s'.input) (level : BitVec 4)
    (ht : exec (.encodeChannel level) s = .next t) (ht' : exec (.encodeChannel level) s' = .next t') : agree t t' := by
  have hescape := congrArg Ref.escape h
  cases (execEncodeChannel_eq level s).symm.trans ht
  cases (execEncodeChannel_eq level s').symm.trans ht'
  exact agree_of_out rfl (congrArg Memory.ofBytes hescape) (congrArg List.length hescape)

theorem execEncodePrint_agree {s s' t t' : State} (h : s.input = s'.input) (level : BitVec 4)
    (ht : exec (.encodePrint level) s = .next t) (ht' : exec (.encodePrint level) s' = .next t') : agree t t' := by
  have htext := congrArg Ref.base64 h
  obtain ⟨g, hg⟩ := execEncodePrint_eq level s
  obtain ⟨g', hg'⟩ := execEncodePrint_eq level s'
  cases hg.symm.trans ht
  cases hg'.symm.trans ht'
  exact agree_of_out rfl (congrArg Memory.ofBytes htext) (congrArg List.length htext)

theorem status_of_failedAs {w : BitVec 8} {s t : State} (h : Ref.failedAs w s t) : t.status = w := congrArg State.status h

theorem execDecodeChannel_malformed {s t : State} (level : BitVec 4) (h : Ref.unescape s.input = none)
    (ht : exec (.decodeChannel level) s = .next t) : t.status = statusFailed .invalidEscape := by
  obtain ⟨u, hu, hend⟩ := execDecodeChannel_ends level s
  rw [h] at hend
  cases ht.symm.trans hu
  exact status_of_failedAs (s := { start s with micro := .escape, ipos := t.ipos }) hend

theorem execDecodePrint_malformed {s t : State} (level : BitVec 4) (h : Ref.bodyIndices s.input = none)
    (ht : exec (.decodePrint level) s = .next t) : t.status = statusFailed .invalidBase64 := by
  obtain ⟨u, hu, hfail⟩ := execDecodePrint_of_no_body level h
  cases ht.symm.trans hu
  exact status_of_failedAs hfail

theorem execDecodeChannel_agree {s s' t t' : State} (h : s.input = s'.input) (level : BitVec 4)
    (ht : exec (.decodeChannel level) s = .next t) (ht' : exec (.decodeChannel level) s' = .next t') : agree t t' := by
  cases hout : Ref.unescape s.input with
  | some out =>
    cases (execDecodeChannel_of_unescape level hout).symm.trans ht
    cases (execDecodeChannel_of_unescape level (h ▸ hout)).symm.trans ht'
    exact agree_of_out rfl rfl rfl
  | none =>
    exact agree_of_failed rfl (execDecodeChannel_malformed level hout ht) (execDecodeChannel_malformed level (h ▸ hout) ht')

theorem execDecodePrint_agree {s s' t t' : State} (h : s.input = s'.input) (level : BitVec 4)
    (ht : exec (.decodePrint level) s = .next t) (ht' : exec (.decodePrint level) s' = .next t') : agree t t' := by
  cases hbody : Ref.bodyIndices s.input with
  | some ks =>
    obtain ⟨r, m, hu⟩ := execDecodePrint_of_body level hbody
    obtain ⟨r', m', hu'⟩ := execDecodePrint_of_body (s := s') level (h ▸ hbody)
    cases hu.symm.trans ht
    cases hu'.symm.trans ht'
    exact agree_of_out rfl rfl rfl
  | none =>
    exact agree_of_failed rfl (execDecodePrint_malformed level hbody ht) (execDecodePrint_malformed level (h ▸ hbody) ht')

theorem exec_agree {i : Instr} (hi : i.ctx = none) {s s' t t' : State} (h : Ref.sameArguments s s')
    (ht : exec i s = .next t) (ht' : exec i s' = .next t') : agree t t' := by
  cases i with
  | compress level => exact execCompress_agree h.1 level ht ht'
  | compressZlib level => exact execCompressZlib_agree h.1 level ht ht'
  | encodeChannel level => exact execEncodeChannel_agree h.1 level ht ht'
  | encodePrint level => exact execEncodePrint_agree h.1 level ht ht'
  | adler32 level =>
    cases (adler32CommandGivesTheClosedForm s level).1.symm.trans ht
    cases (adler32CommandGivesTheClosedForm s' level).1.symm.trans ht'
    exact agree_of_out rfl rfl rfl
  | decompress level => exact execDecompress_agree h level level ht ht'
  | decompressZlib level => exact execDecompressZlib_agree h level level ht ht'
  | decodeChannel level => exact execDecodeChannel_agree h.1 level ht ht'
  | decodePrint level => exact execDecodePrint_agree h.1 level ht ht'
  | illegalOp0 | illegalOpAB | illegalOpCF | illegalLevel1011 | illegalLevel1215 =>
    cases ht
    cases ht'
    exact agree_of_out rfl rfl rfl
  | _ => cases hi

/-- `RESULT` follows: it is the checksum of the input or of the output, or 0 (O56). -/
theorem result_congr {s s' t t' : State} (hb : s.busy = false) (hb' : s'.busy = false) (hcmd : s.cmd = s'.cmd)
    (hinput : s.input = s'.input) (ht : step s = .next t) (ht' : step s' = .next t') (h : agree t t') :
    t.result = t'.result := by
  obtain ⟨hsum, hzlib, hzero⟩ := resultRegisterAfterEachCommand s t hb ht
  obtain ⟨hsum', hzlib', hzero'⟩ := resultRegisterAfterEachCommand s' t' hb' ht'
  rw [← hcmd] at hsum' hzlib' hzero'
  by_cases hchecksum : ∃ level, decodeCommand s.cmd = .adler32 level ∨ decodeCommand s.cmd = .compressZlib level
  · rw [hsum hchecksum, hsum' hchecksum, hinput]
  · by_cases hdecoder : ∃ level, decodeCommand s.cmd = .decompressZlib level
    · obtain ⟨hkept, hopen⟩ := hzlib hdecoder
      obtain ⟨hkept', hopen'⟩ := hzlib' hdecoder
      have hok : t.ok = t'.ok := by rw [State.ok, State.ok, h.1]
      have herr : t.err = t'.err := by rw [State.err, State.err, h.1]
      rw [← hok, ← herr] at hkept' hopen'
      by_cases hend : t.ok = true ∨ t.err = 5#4
      · rw [hkept hend, hkept' hend, (h.2 (hend.imp_right .inl)).1]
      · obtain ⟨hfail, hne⟩ := not_or.1 hend
        rw [hopen (Bool.eq_false_iff.2 hfail) hne, hopen' (Bool.eq_false_iff.2 hfail) hne]
    · have hnone (level : BitVec 4) : decodeCommand s.cmd ≠ .adler32 level ∧ decodeCommand s.cmd ≠ .compressZlib level ∧
          decodeCommand s.cmd ≠ .decompressZlib level :=
        ⟨fun h => hchecksum ⟨level, .inl h⟩, fun h => hchecksum ⟨level, .inr h⟩, fun h => hdecoder ⟨level, h⟩⟩
      rw [hzero hnone, hzero' hnone]

/-- Settles O57: each command's end in closed form, or as a run that goes on with the bits of the input alone. -/
theorem commandsAreFunctionsOfTheirArguments : Obligations.CommandsAreFunctionsOfTheirArguments := by
  intro s s' t t' hb hb' hcmd hargs ht ht'
  have hexec := (step_idle hb).symm.trans ht
  have hexec' := (step_idle hb').symm.trans ht'
  rw [← hcmd] at hexec'
  have hagree := exec_agree (decodeCommand_ctx s.cmd) hargs hexec hexec'
  exact ⟨hagree.1, result_congr hb hb' hcmd hargs.1 ht ht' hagree, hagree.2⟩

end Sys2Proof.Machine
end

section
/-! PROOFS. The failure kinds of each command (60_exceptions.md R320, R322, R323) and the legal commands (49_host_interface.md
R304). -/

namespace Sys2Proof.Machine

/-! ### The kinds a decoder raises -/

/-- From `s` to `t` the command has gone on, has succeeded, or has failed for one of these reasons. -/
def statusWithin (kinds : List ErrorKind) (s t : State) : Prop :=
  t.status = s.status ∨ t.status = statusSucceeded ∨ ∃ k ∈ kinds, t.status = statusFailed k

theorem statusWithin_raise {kinds : List ErrorKind} {k : ErrorKind} (hk : k ∈ kinds) (s u : State) :
    statusWithin kinds s (raise k u) := .inr (.inr ⟨k, hk, raise_status k u⟩)

theorem statusWithin.trans {kinds : List ErrorKind} {s t u : State} (h : statusWithin kinds s t)
    (h' : statusWithin kinds t u) : statusWithin kinds s u := by
  rcases h' with hsame | hend
  · rw [statusWithin, hsame]; exact h
  · exact .inr hend

theorem statusWithin.mono {kinds kinds' : List ErrorKind} {s t : State} (h : statusWithin kinds s t)
    (hsub : ∀ k ∈ kinds, k ∈ kinds') : statusWithin kinds' s t :=
  h.imp_right (Or.imp_right fun ⟨k, hk, hstatus⟩ => ⟨k, hsub k hk, hstatus⟩)

theorem err_of_succeeded {t : State} (h : t.status = statusSucceeded) : t.err = 0#4 := by
  rw [State.err, h]
  decide

/-- The error code of a command that began in `s`. -/
theorem statusWithin.err_mem {kinds : List ErrorKind} {s t : State} (h : statusWithin kinds s t)
    (hs : s.status = statusRunning) : t.err ∈ 0#4 :: kinds.map ErrorKind.code := by
  rcases h with hsame | hsucceeded | ⟨k, hk, hfailed⟩
  · have herr : t.err = 0#4 := by rw [State.err, hsame, hs]; decide
    rw [herr]; exact List.mem_cons_self
  · rw [err_of_succeeded hsucceeded]; exact List.mem_cons_self
  · rw [err_statusFailed hfailed]
    exact List.mem_cons_of_mem _ (List.mem_map_of_mem hk)

/-- What the DEFLATE decoder raises (R323). -/
def inflateKinds : List ErrorKind :=
  [.truncatedStream, .unsupportedBlockType, .invalidBackReference, .invalidSymbol, .outputLimitExceeded]

theorem endBlock_statusWithin (s : State) : statusWithin inflateKinds s (endBlock s) := by
  unfold endBlock
  split
  · split
    · exact .inl rfl
    · exact .inr (.inl rfl)
  · exact .inl rfl

theorem copyBytes_statusWithin (n d : Nat) (s : State) : statusWithin inflateKinds s (copyBytes n d s).state := by
  induction n generalizing s with
  | zero => exact .inl rfl
  | succ n ih =>
    rw [copyBytes_succ]
    rcases put_cases (s.outBuf.read (s.outLen - d)) s with ⟨-, hp⟩ | ⟨-, hp⟩ <;> rw [hp]
    · exact ih (winPush _ (append _ s))
    · exact statusWithin_raise (by decide) _ _

theorem storedBlock_statusWithin (len : BitVec 16) (data : List Byte) (s : State) :
    statusWithin inflateKinds s (storedBlock len data s).state := by
  unfold storedBlock
  dsimp only
  rcases decoderEnd_putAll (data.take len.toNat) { s with blen := len } with ⟨u, hu, hd⟩ | ⟨u, hu, hd⟩ <;> rw [hu]
  · have hstatus : u.status = s.status := hd.status
    dsimp only
    split
    · exact statusWithin_raise (by decide) _ _
    · exact .trans (.inl hstatus) (endBlock_statusWithin u)
  · dsimp only [Flow.state]
    rw [raise_withRpos]
    exact statusWithin_raise (by decide) _ _

theorem literalElement_statusWithin (x : Byte) (s : State) : statusWithin inflateKinds s (literalElement x s).state := by
  unfold literalElement
  rcases put_cases x { s with sym := x.setWidth 9, micro := .litLen } with ⟨-, hp⟩ | ⟨-, hp⟩ <;> rw [hp]
  · exact .inl rfl
  · exact statusWithin_raise (by decide) _ _

theorem distanceElement_statusWithin (j e : Nat) (s : State) : statusWithin inflateKinds s (distanceElement j e s).state := by
  unfold distanceElement
  dsimp only
  split
  · exact statusWithin_raise (by decide) _ _
  · exact copyBytes_statusWithin _ _ { s with mdist := BitVec.ofNat 16 (distanceOperand j e), micro := .litLen }

theorem DeflateMove.statusWithin {s t : State} (h : DeflateMove s t) : statusWithin inflateKinds s t := by
  cases h with
  | storedHeader | fixedHeader | length => exact .inl rfl
  | unsupportedHeader | reserved => exact statusWithin_raise (by decide) _ _
  | storedBody len data => exact storedBlock_statusWithin len data s
  | literal x => exact literalElement_statusWithin x s
  | endOfBlock => exact endBlock_statusWithin { s with sym := 256#9 }
  | distance j e => exact distanceElement_statusWithin j e s

theorem deflateStep_statusWithin {s t : State} (hc : s.micro.readsBits = true) (h : deflateStep s = .next t) :
    statusWithin inflateKinds s t := by
  unfold deflateStep at h
  rcases fetch_bits hc with hf | ⟨i, n, hf, hi, -, -⟩ <;> rw [hf] at h
  · cases h; exact statusWithin_raise (by decide) _ _
  · obtain ⟨u, hu, -, hmove⟩ := deflateElement_next hi hc (advanceBits n s)
    cases h.symm.trans hu
    exact hmove.statusWithin

theorem inflate_statusWithin {s t : State} (h : inflate s = .next t) : statusWithin inflateKinds s t := by
  refine runWhile_keeps (P := statusWithin inflateKinds s) ?_ h (.inl rfl)
  intro u v hg hu hv
  rw [inflating_eq, Bool.and_eq_true] at hg
  exact hu.trans (deflateStep_statusWithin hg.2 hv)

/-- What `DECOMPRESS_ZLIB` raises (R323). -/
def zlibKinds : List ErrorKind := .invalidHeader :: .checksumMismatch :: inflateKinds

theorem mem_zlibKinds {k : ErrorKind} (h : k ∈ inflateKinds) : k ∈ zlibKinds :=
  List.mem_cons_of_mem _ (List.mem_cons_of_mem _ h)

theorem exec_envelope_statusWithin {i : Instr} {c : StreamCtx} (hi : i.ctx = some c) (hc : 0 < c.envelopeRounds) {s t : State}
    (h : exec i s = .next t) : statusWithin zlibKinds s t := by
  cases i with
  | zlibCmf cmf =>
    change execZlibCmf cmf s = .next t at h
    unfold execZlibCmf at h
    split_ifs at h
    · cases h; exact statusWithin_raise (by decide) _ _
    · cases h; exact .inl rfl
    · cases h; exact statusWithin_raise (by decide) _ _
  | zlibFlg flg =>
    change execZlibFlg flg s = .next t at h
    unfold execZlibFlg at h
    split_ifs at h
    · cases h; exact .inl rfl
    · cases h; exact statusWithin_raise (by decide) _ _
  | zlibPayload =>
    change execZlibPayload s = .next t at h
    unfold execZlibPayload at h
    split_ifs at h
    · cases h; exact statusWithin_raise (by decide) _ _
    · exact (inflate_statusWithin h).mono fun _ => mem_zlibKinds
  | zlibAdler32 sum =>
    rcases execZlibAdler32_cases h with rfl | rfl
    · exact .inr (.inl rfl)
    · exact statusWithin_raise (by decide) _ _
  | _ => cases hi <;> cases hc

theorem envelope_statusWithin {s t : State} (hc : 0 < s.micro.envelopeRounds) (h : streamStep s = .next t) :
    statusWithin zlibKinds s t := by
  unfold streamStep streamStepWith at h
  cases hf : fetch s with
  | element i u =>
    obtain ⟨hi, rfl⟩ := fetch_envelope hc hf
    rw [hf] at h
    exact exec_envelope_statusWithin hi hc ((streamElement_eq_exec (by simp [hi]) u).symm.trans h)
  | failed k u =>
    obtain ⟨rfl, rfl⟩ := fetch_failed hf
    rw [hf] at h
    cases h
    exact statusWithin_raise (by decide) _ _
  | endOfInput => exact absurd hf (fetch_envelope_ne_endOfInput hc)

/-! ### The commands -/

theorem execDecompress_err {level : BitVec 4} {s t : State} (h : exec (.decompress level) s = .next t) :
    t.err ∈ [0#4, 1#4, 2#4, 3#4, 8#4, 9#4] :=
  (inflate_statusWithin (s := atFirstBlock false (start s)) h).err_mem rfl

theorem execDecompressZlib_err {level : BitVec 4} {s t : State} (h : exec (.decompressZlib level) s = .next t) :
    t.err ∈ [0#4, 1#4, 2#4, 3#4, 4#4, 5#4, 8#4, 9#4] := by
  have hwithin : statusWithin zlibKinds { start s with micro := .zlibCmf } t := by
    refine (runWhile_keeps (P := fun u => statusWithin zlibKinds { start s with micro := .zlibCmf } u ∧
      (u.busy = true → 0 < u.micro.envelopeRounds)) ?_ h ⟨.inl rfl, fun _ => Nat.succ_pos 3⟩).1
    rintro u v hb ⟨hu, hc⟩ hv
    refine ⟨hu.trans (envelope_statusWithin (hc hb) hv), fun hbv => ?_⟩
    obtain ⟨w, hw, hnext⟩ := envelopeWithin_step u.micro.envelopeRounds u hb ⟨hc hb, Nat.le_succ _⟩
    cases hv.symm.trans ((step_running hb).symm.trans hw)
    exact (hnext hbv).1
  have hmem := hwithin.err_mem rfl
  simp only [zlibKinds, inflateKinds, List.map_cons, List.map_nil, ErrorKind.code, List.mem_cons, List.not_mem_nil,
    or_false] at hmem ⊢
  tauto

theorem execDecodeChannel_err {level : BitVec 4} {s t : State} (h : exec (.decodeChannel level) s = .next t) :
    t.err ∈ [0#4, 6#4] := by
  cases hout : Ref.unescape s.input with
  | some out =>
    have herr : t.err = 0#4 := by
      cases (execDecodeChannel_of_unescape level hout).symm.trans h
      exact err_of_succeeded rfl
    rw [herr]
    exact List.mem_cons_self
  | none => rw [err_statusFailed (execDecodeChannel_malformed level hout h)]; decide

theorem execDecodePrint_err {level : BitVec 4} {s t : State} (h : exec (.decodePrint level) s = .next t) :
    t.err ∈ [0#4, 7#4] := by
  cases hbody : Ref.bodyIndices s.input with
  | some ks =>
    obtain ⟨r, m, hu⟩ := execDecodePrint_of_body level hbody
    have herr : t.err = 0#4 := by
      cases hu.symm.trans h
      exact err_of_succeeded rfl
    rw [herr]
    exact List.mem_cons_self
  | none => rw [err_statusFailed (execDecodePrint_malformed level hbody h)]; decide

theorem ok_succeed (s : State) : (succeed s).ok = true ∧ (succeed s).err = 0#4 :=
  ⟨succeed_ok s, err_of_succeeded (succeed_status s)⟩

theorem exec_encoder_ok {level : BitVec 4} {s t : State} (h : exec (.compress level) s = .next t ∨
    exec (.compressZlib level) s = .next t ∨ exec (.encodeChannel level) s = .next t ∨ exec (.encodePrint level) s = .next t ∨
    exec (.adler32 level) s = .next t) : t.ok = true ∧ t.err = 0#4 := by
  rcases h with h | h | h | h | h
  · obtain ⟨u, -, hu⟩ := execCompress_encodes level s
    cases h.symm.trans hu
    exact ok_succeed u
  · obtain ⟨u, v, -, hu⟩ := execCompressZlib_encodes level s
    cases h.symm.trans hu
    exact ok_succeed _
  · obtain ⟨u, -, hu⟩ := execEncodeChannel_encodes level s
    cases h.symm.trans hu
    exact ok_succeed u
  · obtain ⟨u, -, hu⟩ := execEncodePrint_encodes level s
    cases h.symm.trans hu
    exact ok_succeed u
  · obtain ⟨u, v, -, hu⟩ := execAdler32_encodes level s
    cases h.symm.trans hu
    exact ok_succeed _

/-! ### Each kind occurs -/

/-- The command answers a state with this error code. -/
def answersErr (a : Answer) (k : BitVec 4) : Bool :=
  match a with
  | .next t => t.err == k
  | _ => false

theorem exists_of_answersErr {i : Instr} {s : State} {k : BitVec 4} (h : answersErr (exec i s) k = true) :
    ∃ s t, exec i s = .next t ∧ t.err = k := by
  cases ha : exec i s with
  | next t => rw [ha] at h; exact ⟨s, t, ha, beq_iff_eq.1 h⟩
  | fault | refused => rw [ha] at h; cases h

/-- Inputs, with their `MAXOUT`, on which `DECOMPRESS` ends with each code of its row: an empty fixed block, nothing, a dynamic block,
a distance with no output before it, symbol 286, and two bytes where one is allowed. -/
def inflateWitnesses : List (BitVec 4 × List Byte × Nat) :=
  [(0#4, [0x03#8, 0x00#8], 0), (1#4, [], 0), (2#4, [0x05#8], 0), (3#4, [0x03#8, 0x02#8], 0), (8#4, [0x1B#8, 0x03#8], 0),
    (9#4, [0x01#8, 0x02#8, 0x00#8, 0xFD#8, 0xFF#8, 0x41#8, 0x42#8], 1)]

/-- The same payloads in the zlib envelope; beside them a bad header and a bad trailer. -/
def zlibWitnesses : List (BitVec 4 × List Byte × Nat) :=
  [(4#4, [0x00#8, 0x00#8], 0), (5#4, [0x78#8, 0x9C#8, 0x03#8, 0x00#8, 0x00#8, 0x00#8, 0x00#8, 0x00#8], 0)] ++
    inflateWitnesses.map fun (k, payload, m) => (k, [0x78#8, 0x9C#8] ++ payload ++ [0x00#8, 0x00#8, 0x00#8, 0x01#8], m)

def channelWitnesses : List (BitVec 4 × List Byte × Nat) := [(0#4, [], 0), (6#4, [0x01#8], 0)]

def printWitnesses : List (BitVec 4 × List Byte × Nat) := [(0#4, [], 0), (7#4, [0x21#8], 0)]

/-- Every witness ends with its code. -/
def witnessed (i : Instr) (ws : List (BitVec 4 × List Byte × Nat)) : Bool :=
  ws.all fun (k, xs, m) => answersErr (exec i (State.reading xs m)) k

theorem exists_of_witnessed {i : Instr} {ws : List (BitVec 4 × List Byte × Nat)} (h : witnessed i ws = true) {k : BitVec 4}
    (hk : k ∈ ws.map Prod.fst) : ∃ s t, exec i s = .next t ∧ t.err = k := by
  obtain ⟨⟨_, xs, m⟩, hw, rfl⟩ := List.mem_map.1 hk
  exact exists_of_answersErr (List.all_eq_true.1 h _ hw)

theorem decompress_witnessed : witnessed (.decompress 0#4) inflateWitnesses = true := by decide +kernel

theorem decompressZlib_witnessed : witnessed (.decompressZlib 0#4) zlibWitnesses = true := by decide +kernel

theorem decodeChannel_witnessed : witnessed (.decodeChannel 0#4) channelWitnesses = true := by decide +kernel

theorem decodePrint_witnessed : witnessed (.decodePrint 0#4) printWitnesses = true := by decide +kernel

/-- Settles O55: the kinds each element raises, along the run, and one input for each. -/
theorem failureKindsOfEachCommand : Obligations.FailureKindsOfEachCommand := by
  refine ⟨fun s t level => ⟨exec_encoder_ok, execDecompress_err, execDecompressZlib_err, execDecodeChannel_err,
    execDecodePrint_err⟩, fun k hk => exists_of_witnessed decompress_witnessed hk,
    fun k hk => exists_of_witnessed decompressZlib_witnessed ?_, fun k hk => exists_of_witnessed decodeChannel_witnessed hk,
    fun k hk => exists_of_witnessed decodePrint_witnessed hk⟩
  have hsub : ∀ k ∈ [0#4, 1#4, 2#4, 3#4, 4#4, 5#4, 8#4, 9#4], k ∈ zlibWitnesses.map Prod.fst := by decide
  exact hsub k hk

/-! ### Legal commands -/

/-- A START of this command is refused (R304). -/
def refuses (i : Instr) : Prop := ∀ s : State, exec i s = .next { start s with status := 0xF2#8 }

theorem refuses_illegalOp0 (level : BitVec 4) : refuses (.illegalOp0 level) := fun _ => rfl

theorem refuses_illegalOpAB (low : BitVec 1) (level : BitVec 4) : refuses (.illegalOpAB low level) := fun _ => rfl

theorem refuses_illegalOpCF (low : BitVec 2) (level : BitVec 4) : refuses (.illegalOpCF low level) := fun _ => rfl

theorem refuses_illegalLevel1011 (zlib low : BitVec 1) : refuses (.illegalLevel1011 zlib low) := fun _ => rfl

theorem refuses_illegalLevel1215 (zlib : BitVec 1) (low : BitVec 2) : refuses (.illegalLevel1215 zlib low) := fun _ => rfl

theorem refuses_illegalLevel (zlib : BitVec 1) (level : BitVec 4) : refuses (illegalLevel zlib level) := by
  unfold illegalLevel
  split_ifs
  · exact refuses_illegalLevel1011 zlib _
  · exact refuses_illegalLevel1215 zlib _

theorem cmdOp_toNat (w : BitVec 8) : (cmdOp w).toNat = w.toNat % 16 := by
  rw [cmdOp, BitVec.extractLsb'_toNat, Nat.shiftRight_zero]

theorem cmdLevel_toNat (w : BitVec 8) : (cmdLevel w).toNat = w.toNat / 16 := by
  have := w.isLt
  rw [cmdLevel, BitVec.extractLsb'_toNat, Nat.shiftRight_eq_div_pow]
  omega

/-- `op` and `level` of `CMD` make a command (R304). -/
abbrev legalWord (w : BitVec 8) : Prop :=
  1 ≤ (cmdOp w).toNat ∧ (cmdOp w).toNat ≤ 9 ∧ ((cmdOp w).toNat = 1 ∨ (cmdOp w).toNat = 3 → (cmdLevel w).toNat ≤ 9)

theorem refuses_of_not_legalWord {w : BitVec 8} (h : ¬ legalWord w) : refuses (decodeCommand w) := by
  unfold decodeCommand
  refine iteInduction (fun _ => refuses_illegalOp0 _) fun _ => ?_
  refine iteInduction (fun _ => iteInduction (fun _ => by omega) fun _ => refuses_illegalLevel _ _) fun _ => ?_
  refine iteInduction (fun _ => by omega) fun _ => ?_
  refine iteInduction (fun _ => iteInduction (fun _ => by omega) fun _ => refuses_illegalLevel _ _) fun _ => ?_
  refine iteInduction (fun _ => by omega) fun _ => ?_
  refine iteInduction (fun _ => by omega) fun _ => ?_
  refine iteInduction (fun _ => by omega) fun _ => ?_
  refine iteInduction (fun _ => by omega) fun _ => ?_
  refine iteInduction (fun _ => by omega) fun _ => ?_
  refine iteInduction (fun _ => by omega) fun _ => ?_
  exact iteInduction (fun _ => refuses_illegalOpAB _ _) fun _ => refuses_illegalOpCF _ _

/-- No end of this command is that of a refused one. -/
def accepts (i : Instr) : Prop := ∀ s t : State, exec i s = .next t → t.err ≠ 0xF#4

theorem accepts_of_err {i : Instr} {errs : List (BitVec 4)} (h : ∀ s t : State, exec i s = .next t → t.err ∈ errs)
    (hno : 0xF#4 ∉ errs) : accepts i := fun s t ht he => hno (he ▸ h s t ht)

theorem accepts_encoder {i : Instr} (h : ∀ s t : State, exec i s = .next t → t.ok = true ∧ t.err = 0#4) : accepts i :=
  accepts_of_err (errs := [0#4]) (fun s t ht => List.mem_singleton.2 (h s t ht).2) (by decide)

theorem accepts_of_legalWord {w : BitVec 8} (h : legalWord w) : accepts (decodeCommand w) := by
  have hcompress (level : BitVec 4) : accepts (.compress level) := accepts_encoder fun _ _ ht => exec_encoder_ok (.inl ht)
  have hcompressZlib (level : BitVec 4) : accepts (.compressZlib level) :=
    accepts_encoder fun _ _ ht => exec_encoder_ok (.inr (.inl ht))
  unfold decodeCommand
  refine iteInduction (fun _ => by omega) fun _ => ?_
  refine iteInduction (fun _ => iteInduction (fun _ => hcompress _) fun _ => by omega) fun _ => ?_
  refine iteInduction (fun _ => accepts_of_err (fun _ _ => execDecompress_err) (by decide)) fun _ => ?_
  refine iteInduction (fun _ => iteInduction (fun _ => hcompressZlib _) fun _ => by omega) fun _ => ?_
  refine iteInduction (fun _ => accepts_of_err (fun _ _ => execDecompressZlib_err) (by decide)) fun _ => ?_
  refine iteInduction (fun _ => accepts_encoder fun _ _ ht => exec_encoder_ok (.inr (.inr (.inl ht)))) fun _ => ?_
  refine iteInduction (fun _ => accepts_of_err (fun _ _ => execDecodeChannel_err) (by decide)) fun _ => ?_
  refine iteInduction (fun _ => accepts_encoder fun _ _ ht => exec_encoder_ok (.inr (.inr (.inr (.inl ht))))) fun _ => ?_
  refine iteInduction (fun _ => accepts_of_err (fun _ _ => execDecodePrint_err) (by decide)) fun _ => ?_
  refine iteInduction (fun _ => accepts_encoder fun _ _ ht => exec_encoder_ok (.inr (.inr (.inr (.inr ht))))) fun _ => ?_
  exact iteInduction (fun _ => by omega) fun _ => by omega

/-- Settles O5: the decoder of `CMD` gives an illegal row for exactly the words that are not legal, and no command's row of kinds has
IllegalCommand. -/
theorem illegalCommandsAreRefused : Obligations.IllegalCommandsAreRefused := by
  refine ⟨fun s hb => ?_, fun s level low zlib low2 => ⟨refuses_illegalOp0 level s, refuses_illegalOpAB low level s,
    refuses_illegalOpCF low2 level s, refuses_illegalLevel1011 zlib low s, refuses_illegalLevel1215 zlib low2 s⟩⟩
  dsimp only
  rw [← cmdOp_toNat, ← cmdLevel_toNat, step_idle hb]
  exact ⟨fun h => ⟨refuses_of_not_legalWord h s, rfl, rfl⟩, fun h => accepts_of_legalWord h s⟩

end Sys2Proof.Machine
end

section
/-! PROOFS. How long the output of each command can be (70_reset_and_hazards.md R373, 43_deflate_encoder.md R196). -/

namespace Sys2Proof.Ref

/-! ### The bits of a parse -/

/-- The bits of a length, by its symbol: no extra bits up to 10 (R156, R160). -/
theorem length_lenBits_le {len : Nat} (hlo : 3 ≤ len) (hhi : len ≤ 258) :
    (litLenBits (257 + Machine.lenSym len)).length + Rom.lenExtra (Machine.lenSym len) + 18 ≤ 9 * len := by
  by_cases hshort : len ≤ 10
  · have hall : ∀ n ≤ 10, 3 ≤ n → (litLenBits (257 + Machine.lenSym n)).length +
        Rom.lenExtra (Machine.lenSym n) + 18 ≤ 9 * n := by decide +kernel
    exact hall len hshort hlo
  · have hsym : Machine.lenSym len ≤ 28 := by
      obtain rfl | hlt := Nat.eq_or_lt_of_le hhi
      · exact Nat.le_refl 28
      · exact (Machine.lenSym_le (Nat.le_of_lt_succ hlt)).trans (by decide)
    have hextra : ∀ i ≤ 28, Rom.lenExtra i ≤ 5 := by decide
    have := hextra _ hsym
    have := length_litLenBits_le (257 + Machine.lenSym len)
    omega

theorem distExtra_distSym_le (dist : Nat) : Rom.distExtra (Machine.distSym dist) ≤ 13 := by
  have hall : ∀ j ≤ 29, Rom.distExtra j ≤ 13 := by decide
  exact hall _ (Machine.distSym_le dist)

/-- A symbol of the encoder takes at most nine bits for each byte it covers (R373). -/
theorem Symbol.greedyAt.length_bits_le {sym : Symbol} {input : List Byte} {p : Nat} (h : sym.greedyAt input p) :
    sym.bits.length ≤ 9 * sym.size := by
  cases sym with
  | literal x => exact length_litLenBits_le x.toNat
  | pair len dist =>
    obtain ⟨hlo, -, -, ⟨hhi, -, -⟩, -⟩ := h
    have hlen := length_lenBits_le hlo hhi
    have hdist := distExtra_distSym_le dist
    rw [Symbol.bits, Symbol.size, List.length_append, List.length_append, List.length_append, Machine.length_lsbBits,
      Machine.length_msbBits, Machine.length_lsbBits]
    omega

theorem length_parse_bits_le {input : List Byte} {p : Nat} {symbols : List Symbol} (h : parses input p symbols) :
    (symbols.flatMap Symbol.bits).length + 9 * p ≤ 9 * input.length := by
  induction symbols generalizing p with
  | nil => exact Nat.le_of_eq (by rw [show p = input.length from h]; exact Nat.zero_add _)
  | cons sym rest ih =>
    obtain ⟨hsym, hrest⟩ := (parses_cons ..).1 h
    have := hsym.length_bits_le
    have := ih hrest
    rw [List.flatMap_cons, List.length_append]
    omega

end Sys2Proof.Ref

namespace Sys2Proof.Machine

/-! ### The encoders -/

theorem length_compressFixed (s : State) : (compressFixed (start s)).output.length ≤ (10 + 9 * s.inLen + 7) / 8 := by
  obtain ⟨symbols, pad, hparse, hpad, hemits, hempty, -⟩ := compressFixed_emits (start_writerOk s)
  have hbits := congrArg List.length (bytesBits_output_of_emits hemits rfl ⟨rfl, rfl⟩ hempty)
  have hsymbols := Ref.length_parse_bits_le hparse
  have hinput : (start s).input.length = s.inLen := length_input (start s)
  simp only [length_bytesBits, List.length_append, List.length_cons, List.length_nil, List.length_replicate] at hbits
  omega

theorem length_compressBody_fixed {level : BitVec 4} (h : level ≠ 0#4) (s : State) :
    (compressBody level (start s)).output.length ≤ (10 + 9 * s.inLen + 7) / 8 := by
  rw [compressBody, if_neg h]
  exact length_compressFixed s

theorem length_compressBody_stored (s : State) :
    (compressBody 0#4 (start s)).output.length = s.inLen + 5 * max 1 ((s.inLen + 65534) / 65535) := by
  obtain ⟨hstored, hlen⟩ := compressLevelZeroStores s
  have hout := congrArg State.outLen (Host.Outcome.next.inj ((exec_compress 0#4 s).symm.trans hstored))
  exact (Memory.length_bytes _ _ _).trans (hout.trans hlen)

theorem execCompress_outLen {level : BitVec 4} {s t : State} (h : exec (.compress level) s = .next t) :
    t.outLen = (compressBody level (start s)).output.length := by
  cases (exec_compress level s).symm.trans h
  exact (Memory.length_bytes _ _ _).symm

theorem execCompressZlib_outLen {level : BitVec 4} {s t : State} (h : exec (.compressZlib level) s = .next t) :
    t.outLen = (compressBody level (start s)).output.length + 6 := by
  cases (execCompressZlib_eq level s).symm.trans h
  exact length_envelopeOf _ _

theorem execEncodeChannel_outLen {level : BitVec 4} {s t : State} (h : exec (.encodeChannel level) s = .next t) :
    t.outLen ≤ 2 * s.inLen := by
  cases (execEncodeChannel_eq level s).symm.trans h
  rw [← length_input]
  exact Ref.length_escape_le s.input

theorem execEncodePrint_outLen {level : BitVec 4} {s t : State} (h : exec (.encodePrint level) s = .next t) :
    t.outLen = 4 * ((s.inLen + 2) / 3) := by
  obtain ⟨g, hg⟩ := execEncodePrint_eq level s
  cases hg.symm.trans h
  rw [← length_input]
  exact Ref.length_base64 s.input

/-! ### The text decoders -/

theorem execDecodeChannel_outLen {level : BitVec 4} {s t : State} (h : exec (.decodeChannel level) s = .next t)
    (hok : t.ok = true) : t.outLen ≤ s.inLen := by
  cases hout : Ref.unescape s.input with
  | some out =>
    cases (execDecodeChannel_of_unescape level hout).symm.trans h
    rw [← length_input]
    exact length_le_of_unescape hout
  | none =>
    rw [ok_statusFailed (execDecodeChannel_malformed level hout h)] at hok
    cases hok

theorem length_groupBytes_le (ks : List Nat) : (Ref.groupBytes ks).length ≤ ks.length := by
  induction ks using Ref.groupBytes.induct with
  | case1 k0 k1 k2 k3 rest ih =>
    simp only [Ref.groupBytes, List.length_append, List.length_cons, List.length_nil]
    omega
  | case2 | case3 => simp [Ref.groupBytes]
  | case4 ks hfour hthree htwo =>
    rw [Ref.groupBytes.eq_4 ks hfour hthree htwo]
    exact Nat.zero_le _

theorem length_le_of_scanText {text : List Byte} {p q : Nat} {ks : List Nat} (h : Ref.scanText p text = some (ks, q)) :
    ks.length ≤ text.length := by
  induction text generalizing p ks with
  | nil => cases h; exact Nat.le_refl 0
  | cons c cs ih =>
    rw [List.length_cons]
    cases hc : Ref.indexOf c with
    | some k =>
      rw [Ref.scanText_index hc] at h
      split_ifs at h
      obtain ⟨⟨ks', q'⟩, hr, heq⟩ := Option.map_eq_some_iff.1 h
      cases heq
      exact Nat.succ_le_succ (ih hr)
    | none =>
      rw [Ref.scanText_other hc] at h
      split_ifs at h
      · exact (ih h).trans (Nat.le_succ _)
      · exact (ih h).trans (Nat.le_succ _)

theorem execDecodePrint_outLen {level : BitVec 4} {s t : State} (h : exec (.decodePrint level) s = .next t)
    (hok : t.ok = true) : t.outLen ≤ s.inLen := by
  cases hbody : Ref.bodyIndices s.input with
  | some ks =>
    obtain ⟨p, hscan, -⟩ := bodyIndices_eq_some.1 hbody
    obtain ⟨r, m, hu⟩ := execDecodePrint_of_body level hbody
    cases hu.symm.trans h
    rw [← length_input]
    exact (length_groupBytes_le ks).trans (length_le_of_scanText hscan)
  | none =>
    rw [ok_statusFailed (execDecodePrint_malformed level hbody h)] at hok
    cases hok

/-- Settles O60: each bound is a length of the command's closed form. -/
theorem outputSizesAreWithinTheStatedBounds : Obligations.OutputSizesAreWithinTheStatedBounds := by
  intro s t level
  refine ⟨fun h => ?_, fun hlevel h => ?_, fun h => ?_, fun hlevel h => ?_, execEncodeChannel_outLen, execEncodePrint_outLen,
    execDecodeChannel_outLen, execDecodePrint_outLen⟩
  · rw [execCompress_outLen h, length_compressBody_stored]
  · rw [execCompress_outLen h]
    exact length_compressBody_fixed hlevel s
  · rw [execCompressZlib_outLen h, length_compressBody_stored]
  · rw [execCompressZlib_outLen h]
    exact Nat.add_le_add_right (length_compressBody_fixed hlevel s) 6

end Sys2Proof.Machine
end

section
/-! PROOFS. The expansion of `DECOMPRESS` is bounded (70_reset_and_hazards.md R374): each element pays for the bytes it puts, or
promises, with bits of the input. The densest pays 13 bits for 258 bytes, 8 of them for the length and 5 for the distance. -/

namespace Sys2Proof.Machine

/-! ### What an element puts and what it costs -/

/-- The bytes put, and those that a latched length promises. -/
def State.promised (s : State) : Nat := if s.micro = .distance then s.outLen + s.mlen.toNat else s.outLen

/-- The bits that the next element is sure to pay for a promise made. -/
def State.pendingBits (s : State) : Nat := if s.micro = .distance then 5 else 0

theorem promised_of_ne {s : State} (h : s.micro ≠ .distance) : s.promised = s.outLen := if_neg h

theorem pendingBits_of_ne {s : State} (h : s.micro ≠ .distance) : s.pendingBits = 0 := if_neg h

theorem promised_of_distance {s : State} (h : s.micro = .distance) : s.promised = s.outLen + s.mlen.toNat := if_pos h

theorem pendingBits_of_distance {s : State} (h : s.micro = .distance) : s.pendingBits = 5 := if_pos h

/-- What an element of `w` bits puts and promises is paid for, unless it fails. -/
inductive PaidFor (w : Nat) (s t : State) : Prop
  | goesOn (hstatus : t.status = s.status) (hbits : bitsLeft t = bitsLeft s)
      (hpaid : 13 * t.promised + 258 * s.pendingBits ≤ 13 * s.promised + 258 * (w + t.pendingBits))
  | succeeded (hstatus : t.status = statusSucceeded) (hpaid : 13 * t.outLen + 258 * s.pendingBits ≤ 13 * s.promised + 258 * w)
  | failed (k : ErrorKind) (hstatus : t.status = statusFailed k)

theorem PaidFor.of_raise (w : Nat) (k : ErrorKind) (s u : State) : PaidFor w s (raise k u) := .failed k (raise_status k u)

/-- An element with no distance before or after it, which puts at most `n` bytes. -/
theorem PaidFor.of_put {w n : Nat} {s t : State} (hs : s.micro ≠ .distance) (ht : t.micro ≠ .distance)
    (hstatus : t.status = s.status) (hbits : bitsLeft t = bitsLeft s) (hlen : t.outLen ≤ s.outLen + n)
    (hpaid : 13 * n ≤ 258 * w) : PaidFor w s t := by
  refine .goesOn hstatus hbits ?_
  rw [promised_of_ne hs, promised_of_ne ht, pendingBits_of_ne hs, pendingBits_of_ne ht]
  omega

/-- The end of a block, after the last element has put at most `n` bytes. -/
theorem PaidFor.of_endBlock {w n : Nat} {s u : State} (hs : s.micro ≠ .distance)
    (hstatus : u.status = s.status) (hbits : bitsLeft u = bitsLeft s) (hlen : u.outLen ≤ s.outLen + n)
    (hpaid : 13 * n ≤ 258 * w) : PaidFor w s (endBlock u) := by
  have hzlib : StreamCtx.zlibTrailer ≠ .distance := by decide
  have hheader : StreamCtx.blockHeader ≠ .distance := by decide
  unfold endBlock
  split_ifs
  · exact .of_put (t := { u with micro := .zlibTrailer }) hs hzlib hstatus hbits hlen hpaid
  · refine .succeeded rfl ?_
    rw [promised_of_ne hs, pendingBits_of_ne hs, succeed_outLen]
    omega
  · exact .of_put (t := { u with micro := .blockHeader }) hs hheader hstatus hbits hlen hpaid

theorem onlyOutput_bitsLeft {s t : State} (h : onlyOutput s t) : bitsLeft t = bitsLeft s := by rw [h]; rfl

theorem onlyOutput_micro {s t : State} (h : onlyOutput s t) : t.micro = s.micro := by rw [h]

theorem onlyOutput_status {s t : State} (h : onlyOutput s t) : t.status = s.status := by rw [h]

theorem latchHeader_paidFor (w : Nat) (bfinal : BitVec 1) (btype : BitVec 2) {body : StreamCtx} (hbody : body ≠ .distance)
    {s : State} (hs : s.micro = .blockHeader) : PaidFor w s (latchHeader bfinal btype body s) :=
  .of_put (n := 0) (by rw [hs]; decide) hbody rfl rfl (Nat.le_refl _) (Nat.zero_le _)

/-- A stored body pays eight bits a byte. -/
theorem storedBlock_paidFor {w : Nat} (len : BitVec 16) {data : List Byte} (hw : 8 * data.length ≤ w) {s : State}
    (hs : s.micro = .storedBody) : PaidFor w s (storedBlock len data s).state := by
  unfold storedBlock
  dsimp only
  rcases decoderEnd_putAll (data.take len.toNat) { s with blen := len } with ⟨u, hu, -⟩ | ⟨u, hu, -⟩ <;> rw [hu]
  · obtain ⟨honly, hlen⟩ := putAll_ok hu
    have htake := List.length_take_le' len.toNat data
    have hstatus := onlyOutput_status honly
    have hbits := onlyOutput_bitsLeft honly
    have hgrown : u.outLen ≤ s.outLen + data.length := hlen.trans_le (Nat.add_le_add_left htake s.outLen)
    dsimp only
    split_ifs
    · exact .of_raise _ _ _ _
    · exact .of_endBlock (by rw [hs]; decide) hstatus hbits hgrown (by omega)
  · dsimp only [Flow.state]
    rw [raise_withRpos]
    exact .of_raise _ _ _ _

theorem literalElement_paidFor {w : Nat} (x : Byte) (hw : 1 ≤ w) {s : State} (hs : s.micro = .litLen) :
    PaidFor w s (literalElement x s).state := by
  unfold literalElement
  rcases put_cases x { s with sym := x.setWidth 9, micro := .litLen } with ⟨-, hp⟩ | ⟨-, hp⟩ <;> rw [hp]
  · exact .of_put (n := 1) (by rw [hs]; decide) (show StreamCtx.litLen ≠ .distance by decide) rfl rfl (Nat.le_refl _)
      (by omega)
  · exact .of_raise _ _ _ _

theorem endOfBlock_paidFor (w : Nat) {s : State} (hs : s.micro = .litLen) :
    PaidFor w s (endBlock { s with sym := 256#9 }) :=
  .of_endBlock (n := 0) (by rw [hs]; decide) rfl rfl (Nat.le_refl _) (Nat.zero_le _)

/-- A length makes its promise, against its own bits and those of the distance to come. -/
theorem lengthElement_paidFor {w i e : Nat} (hw : 13 * lengthOperand i e ≤ 258 * (w + 5)) {s : State}
    (hs : s.micro = .litLen) : PaidFor w s (lengthElement i e s) := by
  have hne : s.micro ≠ .distance := by rw [hs]; decide
  have hmlen : (lengthElement i e s).mlen.toNat ≤ lengthOperand i e := by
    rw [lengthElement, BitVec.toNat_ofNat]; exact Nat.mod_le _ _
  refine .goesOn rfl rfl ?_
  rw [promised_of_ne hne, pendingBits_of_ne hne, promised_of_distance (s := lengthElement i e s) rfl,
    pendingBits_of_distance (s := lengthElement i e s) rfl, show (lengthElement i e s).outLen = s.outLen from rfl]
  omega

/-- A length with an extra field is 258 at most, and eight bits pay for that (R156). -/
theorem length_extra_le {w i n : Nat} (e : BitVec n) (hmax : lengthOperand i (2 ^ n) ≤ 259) (hw : 8 ≤ w) :
    13 * lengthOperand i e.toNat ≤ 258 * (w + 5) := by
  have := e.isLt
  rw [lengthOperand] at hmax ⊢
  omega

/-- A distance keeps the promise, for at least five bits. -/
theorem distanceElement_paidFor {w : Nat} (j e : Nat) (hw : 5 ≤ w) {s : State} (hs : s.micro = .distance) :
    PaidFor w s (distanceElement j e s).state := by
  unfold distanceElement
  dsimp only
  split_ifs
  · exact .of_raise _ _ _ _
  · cases hcopy : copyBytes s.mlen.toNat (distanceOperand j e)
      { s with mdist := BitVec.ofNat 16 (distanceOperand j e), micro := .litLen } with
    | error u =>
      obtain ⟨v, -, -, -, rfl⟩ := copyBytes_error hcopy
      exact .of_raise _ _ _ _
    | ok u =>
      obtain ⟨honly, hlen⟩ := copyBytes_ok hcopy
      have hmicro := onlyOutput_micro honly
      have hstatus := onlyOutput_status honly
      have hbits := onlyOutput_bitsLeft honly
      have hne : u.micro ≠ .distance := by rw [hmicro]; exact show StreamCtx.litLen ≠ .distance by decide
      refine .goesOn hstatus hbits ?_
      rw [promised_of_distance hs, pendingBits_of_distance hs, Flow.state, promised_of_ne hne, pendingBits_of_ne hne, hlen]
      dsimp only
      omega

open Laws.EncodedLength (width)

/-- Every element of a DEFLATE stream pays, by the length of its encoding, for what it puts and promises. -/
theorem deflateElement_paidFor {i : Instr} {c : StreamCtx} (hi : i.ctx = some c) (hc : c.readsBits = true) {s : State}
    (hs : s.micro = c) : ∃ t, deflateElement i s = .next t ∧ PaidFor (width i) s t := by
  cases i with
  | blockStored f | blockFixed f => cases hi; exact ⟨_, rfl, latchHeader_paidFor _ _ _ (by decide) hs⟩
  | blockDynamic | blockReserved | litlenReserved286 | litlenReserved287 | distanceReserved30 | distanceReserved31 =>
    exact ⟨_, rfl, .of_raise _ _ _ _⟩
  | storedBody pad len nlen data => cases hi; exact ⟨_, rfl, storedBlock_paidFor len (Nat.le_add_left _ _) hs⟩
  | literal0To143 x | literal144To255 x =>
    cases hi; exact ⟨_, rfl, literalElement_paidFor x (Nat.le_of_ble_eq_true rfl) hs⟩
  | eob => cases hi; exact ⟨_, rfl, endOfBlock_paidFor _ hs⟩
  | length257 | length258 | length259 | length260 | length261 | length262 | length263 | length264 | length285 =>
    cases hi; exact ⟨_, rfl, lengthElement_paidFor (Nat.le_of_ble_eq_true rfl) hs⟩
  | length265 e | length266 e | length267 e | length268 e | length269 e | length270 e | length271 e | length272 e
  | length273 e | length274 e | length275 e | length276 e | length277 e | length278 e | length279 e | length280 e
  | length281 e | length282 e | length283 e | length284 e =>
    cases hi; exact ⟨_, rfl, lengthElement_paidFor (length_extra_le e (by decide) (Nat.le_of_ble_eq_true rfl)) hs⟩
  | distance0 | distance1 | distance2 | distance3 | distance4 | distance5 | distance6 | distance7 | distance8
  | distance9 | distance10 | distance11 | distance12 | distance13 | distance14 | distance15 | distance16 | distance17
  | distance18 | distance19 | distance20 | distance21 | distance22 | distance23 | distance24 | distance25 | distance26
  | distance27 | distance28 | distance29 => cases hi; exact ⟨_, rfl, distanceElement_paidFor _ _ (Nat.le_of_ble_eq_true rfl) hs⟩
  | _ => cases hi <;> cases hc

theorem length_encode {i : Instr} {c : StreamCtx} (hi : i.ctx = some c) (hc : c.readsBits = true)
    (hwf : c ≠ .storedBody → i.wf = true) : (encode i).length = width i := by
  cases i with
  | storedBody pad len nlen data =>
    show (pad ++ lsbBits 16 len.toNat ++ lsbBits 16 nlen.toNat ++ bytesBits data).length = pad.length + 32 + 8 * data.length
    rw [List.length_append, List.length_append, List.length_append, length_lsbBits, length_lsbBits, length_bytesBits]
  | literal0To143 x => cases hi; exact Laws.EncodedLength.literal0To143 x (hwf (by decide))
  | literal144To255 x => cases hi; exact Laws.EncodedLength.literal144To255 x (hwf (by decide))
  | blockStored | blockFixed | blockDynamic | blockReserved | eob | litlenReserved286 | litlenReserved287
  | length257 | length258 | length259 | length260 | length261 | length262 | length263 | length264 | length265 | length266
  | length267 | length268 | length269 | length270 | length271 | length272 | length273 | length274 | length275 | length276
  | length277 | length278 | length279 | length280 | length281 | length282 | length283 | length284 | length285
  | distance0 | distance1 | distance2 | distance3 | distance4 | distance5 | distance6 | distance7 | distance8
  | distance9 | distance10 | distance11 | distance12 | distance13 | distance14 | distance15 | distance16 | distance17
  | distance18 | distance19 | distance20 | distance21 | distance22 | distance23 | distance24 | distance25 | distance26
  | distance27 | distance28 | distance29 | distanceReserved30 | distanceReserved31 => rfl
  | _ => cases hi <;> cases hc

/-! ### A round -/

/-- A round reads an element that is there, and pays for it with its bits; or it fails. -/
theorem deflateStep_paidFor {s t : State} (hc : s.micro.readsBits = true) (h : deflateStep s = .next t) :
    ∃ w ≤ bitsLeft s, PaidFor w (advanceBits w s) t := by
  unfold deflateStep at h
  cases hd : decodeStream s.micro s.rbit.toNat (readerBits s) with
  | ok p =>
    obtain ⟨i, rest⟩ := p
    obtain ⟨hbits, hwf⟩ := eq_of_decodeStream hd
    obtain ⟨hi, -⟩ := decodeStream_bits hc hd
    have hwidth := length_encode hi hc hwf
    have hcount := congrArg List.length hbits
    rw [length_readerBits, List.length_append, hwidth] at hcount
    rw [fetch_of_decode (n := width i) hc hd (by omega)] at h
    obtain ⟨u, hu, hpaid⟩ := deflateElement_paidFor hi hc (s := advanceBits (width i) s) rfl
    cases h.symm.trans hu
    exact ⟨width i, by omega, hpaid⟩
  | error e =>
    cases e with
    | truncated =>
      rw [fetch_of_truncated hc hd] at h
      cases h
      exact ⟨0, Nat.zero_le _, .of_raise _ _ _ _⟩
    | endOfInput => exact absurd hd (decodeStream_bits_ne_endOfInput hc _ _)

/-! ### The run -/

/-- Of `n` bits of input, those that have been read have paid for the bytes put and promised. -/
def paidOf (n : Nat) (s : State) : Prop := 13 * s.promised + 258 * bitsLeft s ≤ 258 * (n + s.pendingBits)

/-- A decoder that began with `n` bits goes on with its bytes paid for, has succeeded with them paid for, or has failed. -/
def decodesPaid (n : Nat) (s : State) : Prop :=
  (s.status = statusRunning ∧ paidOf n s) ∨ (s.status = statusSucceeded ∧ 13 * s.outLen ≤ 258 * n) ∨
    ∃ k, s.status = statusFailed k

theorem PaidFor.decodesPaid {n w : Nat} {s t : State} (hw : w ≤ bitsLeft s) (h : PaidFor w (advanceBits w s) t)
    (hs : s.status = statusRunning) (hpaid : paidOf n s) : decodesPaid n t := by
  have hpromised : (advanceBits w s).promised = s.promised := rfl
  have hpending : (advanceBits w s).pendingBits = s.pendingBits := rfl
  unfold paidOf at hpaid
  cases h with
  | goesOn hstatus hbits hround =>
    rw [bitsLeft_advanceBits] at hbits
    rw [hpromised, hpending] at hround
    refine .inl ⟨hstatus.trans hs, ?_⟩
    unfold paidOf
    omega
  | succeeded hstatus hround =>
    rw [hpromised, hpending] at hround
    exact .inr (.inl ⟨hstatus, by omega⟩)
  | failed k hstatus => exact .inr (.inr ⟨k, hstatus⟩)

theorem inflate_decodesPaid {n : Nat} {s t : State} (h : inflate s = .next t) (hs : decodesPaid n s) : decodesPaid n t := by
  refine runWhile_keeps (P := decodesPaid n) ?_ h hs
  intro u v hg hu hv
  rw [inflating_eq, Bool.and_eq_true] at hg
  obtain ⟨hb, hc⟩ := hg
  rcases hu with ⟨hstatus, hpaid⟩ | ⟨hstatus, -⟩ | ⟨k, hstatus⟩
  · obtain ⟨w, hw, hround⟩ := deflateStep_paidFor hc hv
    exact hround.decodesPaid hw hstatus hpaid
  · exact absurd hb (by rw [State.busy, hstatus]; decide)
  · exact absurd hb (by rw [busy_of_statusFailed hstatus]; decide)

/-- Settles O59: 13 times the output is at most 258 times the bits of the input. -/
theorem expansionIsBounded : Obligations.ExpansionIsBounded := by
  intro s t level h hok
  have hstart : decodesPaid (8 * s.inLen) (atFirstBlock false (start s)) := .inl ⟨rfl, Nat.le_of_eq (Nat.zero_add _)⟩
  rcases inflate_decodesPaid h hstart with ⟨hstatus, -⟩ | ⟨-, hpaid⟩ | ⟨k, hstatus⟩
  · exact absurd hok (by rw [State.ok, hstatus]; decide)
  · omega
  · exact absurd hok (by rw [ok_statusFailed hstatus]; decide)

end Sys2Proof.Machine
end
